-- ==== Sys2Proof/Word.lean ====
section
/-! DEFINITION. The word types of the core and their plainest arithmetic. -/

namespace Sys2Proof

/-- `u8` (R8): a V register, a timer, a byte of memory. -/
abbrev Byte := BitVec 8

/-- `u16` (R8): PC, I, a stack slot, an opcode. -/
abbrev Word := BitVec 16

/-- A register index, the 4-bit field X or Y: every value names a register (R20). -/
abbrev Reg := Fin 16

/-- `zext_16` of a byte (R8). -/
abbrev zext16 (b : Byte) : Word := b.setWidth 16

end Sys2Proof
end

