-- ==== Sys2Proof/Syntax.lean ====
section
/-! DEFINITION. The instructions: one constructor per row of spec/opcode_table.json (R76 to R81). -/

namespace Sys2Proof

/-- One instruction with its operand fields (R9, R71): `x`, `y` register indices, `nn` an 8-bit immediate, `nnn` a
12-bit address, `n` the number of sprite rows. -/
inductive Instr where
  | sys (nnn : BitVec 12)
  | cls
  | ret
  | exit
  | jp (nnn : BitVec 12)
  | call (nnn : BitVec 12)
  | seImm (x : Reg) (nn : Byte)
  | sneImm (x : Reg) (nn : Byte)
  | seReg (x y : Reg)
  | ldImm (x : Reg) (nn : Byte)
  | addImm (x : Reg) (nn : Byte)
  | ldReg (x y : Reg)
  | orReg (x y : Reg)
  | andReg (x y : Reg)
  | xorReg (x y : Reg)
  | addReg (x y : Reg)
  | sub (x y : Reg)
  | shr (x y : Reg)
  | subn (x y : Reg)
  | shl (x y : Reg)
  | sneReg (x y : Reg)
  | ldI (nnn : BitVec 12)
  | jpV0 (nnn : BitVec 12)
  | rnd (x : Reg) (nn : Byte)
  | drw (x y : Reg) (n : BitVec 4)
  | skp (x : Reg)
  | sknp (x : Reg)
  | ldVDt (x : Reg)
  | ldK (x : Reg)
  | ldDtV (x : Reg)
  | ldStV (x : Reg)
  | addI (x : Reg)
  | ldF (x : Reg)
  | ldHf (x : Reg)
  | ldB (x : Reg)
  | ldMemFromV (x : Reg)
  | ldVFromMem (x : Reg)
  deriving DecidableEq, Repr

/-- A hexadecimal digit (R87). -/
def hexDigit (n : Nat) : Char :=
  ['0', '1', '2', '3', '4', '5', '6', '7', '8', '9', 'A', 'B', 'C', 'D', 'E', 'F'].getD n '0'

/-- The low `k` hexadecimal digits of a number, the first the most significant. -/
def hexDigits : Nat → Nat → List Char
  | 0, _ => []
  | k + 1, n => hexDigits k (n / 16) ++ [hexDigit (n % 16)]

/-- A number in the assembler's spelling, `0x` and its digits (R87). -/
def asmHex (k n : Nat) : String := "0x" ++ String.ofList (hexDigits k n)

/-- A register in the assembler's spelling, `V0` to `VF` (R87). -/
def asmReg (x : Reg) : String := "V" ++ String.ofList [hexDigit x.val]

/-- The assembler syntax of R87. -/
def Instr.asm : Instr → String
  | .sys nnn => "SYS " ++ asmHex 3 nnn.toNat
  | .cls => "CLS"
  | .ret => "RET"
  | .exit => "EXIT"
  | .jp nnn => "JP " ++ asmHex 3 nnn.toNat
  | .call nnn => "CALL " ++ asmHex 3 nnn.toNat
  | .seImm x nn => "SE " ++ asmReg x ++ ", " ++ asmHex 2 nn.toNat
  | .sneImm x nn => "SNE " ++ asmReg x ++ ", " ++ asmHex 2 nn.toNat
  | .seReg x y => "SE " ++ asmReg x ++ ", " ++ asmReg y
  | .ldImm x nn => "LD " ++ asmReg x ++ ", " ++ asmHex 2 nn.toNat
  | .addImm x nn => "ADD " ++ asmReg x ++ ", " ++ asmHex 2 nn.toNat
  | .ldReg x y => "LD " ++ asmReg x ++ ", " ++ asmReg y
  | .orReg x y => "OR " ++ asmReg x ++ ", " ++ asmReg y
  | .andReg x y => "AND " ++ asmReg x ++ ", " ++ asmReg y
  | .xorReg x y => "XOR " ++ asmReg x ++ ", " ++ asmReg y
  | .addReg x y => "ADD " ++ asmReg x ++ ", " ++ asmReg y
  | .sub x y => "SUB " ++ asmReg x ++ ", " ++ asmReg y
  | .shr x y => "SHR " ++ asmReg x ++ ", " ++ asmReg y
  | .subn x y => "SUBN " ++ asmReg x ++ ", " ++ asmReg y
  | .shl x y => "SHL " ++ asmReg x ++ ", " ++ asmReg y
  | .sneReg x y => "SNE " ++ asmReg x ++ ", " ++ asmReg y
  | .ldI nnn => "LD I, " ++ asmHex 3 nnn.toNat
  | .jpV0 nnn => "JP V0, " ++ asmHex 3 nnn.toNat
  | .rnd x nn => "RND " ++ asmReg x ++ ", " ++ asmHex 2 nn.toNat
  | .drw x y n => "DRW " ++ asmReg x ++ ", " ++ asmReg y ++ ", " ++ asmHex 1 n.toNat
  | .skp x => "SKP " ++ asmReg x
  | .sknp x => "SKNP " ++ asmReg x
  | .ldVDt x => "LD " ++ asmReg x ++ ", DT"
  | .ldK x => "LD " ++ asmReg x ++ ", K"
  | .ldDtV x => "LD DT, " ++ asmReg x
  | .ldStV x => "LD ST, " ++ asmReg x
  | .addI x => "ADD I, " ++ asmReg x
  | .ldF x => "LD F, " ++ asmReg x
  | .ldHf x => "LD HF, " ++ asmReg x
  | .ldB x => "LD B, " ++ asmReg x
  | .ldMemFromV x => "LD [I], " ++ asmReg x
  | .ldVFromMem x => "LD " ++ asmReg x ++ ", [I]"

end Sys2Proof
end

