-- ==== Sys2Proof/WellFormed.lean ====
section
/-! DEFINITION. Which instructions have an encoding of their own. The field types already bound every operand; what
is left is the priority of R82: the words 00E0, 00EE and 00FD are CLS, RET and EXIT, never SYS. -/

namespace Sys2Proof

/-- The three addresses a SYS word cannot carry (R76, R82). -/
def sysTaken : List (BitVec 12) := [0x0E0#12, 0x0EE#12, 0x0FD#12]

/-- A well-formed instruction: one whose word decodes to it. -/
def Instr.wellFormed : Instr → Bool
  | .sys nnn => !sysTaken.contains nnn
  | .cls => true
  | .ret => true
  | .exit => true
  | .jp _ => true
  | .call _ => true
  | .seImm _ _ => true
  | .sneImm _ _ => true
  | .seReg _ _ => true
  | .ldImm _ _ => true
  | .addImm _ _ => true
  | .ldReg _ _ => true
  | .orReg _ _ => true
  | .andReg _ _ => true
  | .xorReg _ _ => true
  | .addReg _ _ => true
  | .sub _ _ => true
  | .shr _ _ => true
  | .subn _ _ => true
  | .shl _ _ => true
  | .sneReg _ _ => true
  | .ldI _ => true
  | .jpV0 _ => true
  | .rnd _ _ => true
  | .drw _ _ _ => true
  | .skp _ => true
  | .sknp _ => true
  | .ldVDt _ => true
  | .ldK _ => true
  | .ldDtV _ => true
  | .ldStV _ => true
  | .addI _ => true
  | .ldF _ => true
  | .ldHf _ => true
  | .ldB _ => true
  | .ldMemFromV _ => true
  | .ldVFromMem _ => true

end Sys2Proof
end

