-- ==== Sys2Proof/Decode.lean ====
section
/-! DEFINITION. Decoding and encoding (R70 to R86), and the opcode table as data. -/

namespace Sys2Proof

/-- Why bytes are no instruction: fewer than two bytes, or one of the unknown words of R84 (the machine runs an unknown
word as a no-op, so this is no stop). -/
inductive DecodeError where
  | truncated
  | unknown5XYn
  | unknown8XYn
  | unknown9XYn
  | unknownEXnn
  | unknownFXnn
  deriving DecidableEq, Repr

/-- `op[15:12]`, the major nibble (R9). -/
def major (op : Word) : Nat := (op.extractLsb' 12 4).toNat

/-- X = `op[11:8]` (R9). -/
def fieldX (op : Word) : Reg := (op.extractLsb' 8 4).toFin

/-- Y = `op[7:4]` (R9). -/
def fieldY (op : Word) : Reg := (op.extractLsb' 4 4).toFin

/-- N = `op[3:0]` (R9). -/
def fieldN (op : Word) : BitVec 4 := op.extractLsb' 0 4

/-- NN = `op[7:0]` (R9). -/
def fieldNN (op : Word) : Byte := op.extractLsb' 0 8

/-- NNN = `op[11:0]` (R9). -/
def fieldNNN (op : Word) : BitVec 12 := op.extractLsb' 0 12

/-- Major 0 (R76, R82): the three exact words first, SYS for every other. -/
def decodeMajor0 (op : Word) : Instr :=
  match (fieldNNN op).toNat with
  | 0x0E0 => .cls
  | 0x0EE => .ret
  | 0x0FD => .exit
  | _ => .sys (fieldNNN op)

/-- Major 8 (R78), selected by N. -/
def decodeMajor8 (op : Word) : Except DecodeError Instr :=
  match (fieldN op).toNat with
  | 0x0 => .ok (.ldReg (fieldX op) (fieldY op))
  | 0x1 => .ok (.orReg (fieldX op) (fieldY op))
  | 0x2 => .ok (.andReg (fieldX op) (fieldY op))
  | 0x3 => .ok (.xorReg (fieldX op) (fieldY op))
  | 0x4 => .ok (.addReg (fieldX op) (fieldY op))
  | 0x5 => .ok (.sub (fieldX op) (fieldY op))
  | 0x6 => .ok (.shr (fieldX op) (fieldY op))
  | 0x7 => .ok (.subn (fieldX op) (fieldY op))
  | 0xE => .ok (.shl (fieldX op) (fieldY op))
  | _ => .error .unknown8XYn

/-- Major E (R80), selected by NN. -/
def decodeMajorE (op : Word) : Except DecodeError Instr :=
  match (fieldNN op).toNat with
  | 0x9E => .ok (.skp (fieldX op))
  | 0xA1 => .ok (.sknp (fieldX op))
  | _ => .error .unknownEXnn

/-- Major F (R81), selected by NN. -/
def decodeMajorF (op : Word) : Except DecodeError Instr :=
  match (fieldNN op).toNat with
  | 0x07 => .ok (.ldVDt (fieldX op))
  | 0x0A => .ok (.ldK (fieldX op))
  | 0x15 => .ok (.ldDtV (fieldX op))
  | 0x18 => .ok (.ldStV (fieldX op))
  | 0x1E => .ok (.addI (fieldX op))
  | 0x29 => .ok (.ldF (fieldX op))
  | 0x30 => .ok (.ldHf (fieldX op))
  | 0x33 => .ok (.ldB (fieldX op))
  | 0x55 => .ok (.ldMemFromV (fieldX op))
  | 0x65 => .ok (.ldVFromMem (fieldX op))
  | _ => .error .unknownFXnn

/-- `Decode(op)` (R74): by the major nibble, then by the function field. An error is UNKNOWN (R84). -/
def decode (op : Word) : Except DecodeError Instr :=
  match major op with
  | 0x0 => .ok (decodeMajor0 op)
  | 0x1 => .ok (.jp (fieldNNN op))
  | 0x2 => .ok (.call (fieldNNN op))
  | 0x3 => .ok (.seImm (fieldX op) (fieldNN op))
  | 0x4 => .ok (.sneImm (fieldX op) (fieldNN op))
  | 0x5 => if fieldN op = 0 then .ok (.seReg (fieldX op) (fieldY op)) else .error .unknown5XYn
  | 0x6 => .ok (.ldImm (fieldX op) (fieldNN op))
  | 0x7 => .ok (.addImm (fieldX op) (fieldNN op))
  | 0x8 => decodeMajor8 op
  | 0x9 => if fieldN op = 0 then .ok (.sneReg (fieldX op) (fieldY op)) else .error .unknown9XYn
  | 0xA => .ok (.ldI (fieldNNN op))
  | 0xB => .ok (.jpV0 (fieldNNN op))
  | 0xC => .ok (.rnd (fieldX op) (fieldNN op))
  | 0xD => .ok (.drw (fieldX op) (fieldY op) (fieldN op))
  | 0xE => decodeMajorE op
  | _ => decodeMajorF op

/-- The opcode of two consecutive bytes, big-endian (R54, R72). -/
def wordOfBytes (hi lo : Byte) : Word := zext16 hi <<< 8 ||| zext16 lo

/-- The two bytes of an opcode, the one at the lower address first (R54). -/
def bytesOfWord (op : Word) : List Byte := [op.extractLsb' 8 8, op.extractLsb' 0 8]

/-- Decoding on any bytes: exactly two bytes are consumed (R86). -/
def decodeBytes : List Byte → Except DecodeError (Instr × List Byte)
  | hi :: lo :: rest => (decode (wordOfBytes hi lo)).map (fun i => (i, rest))
  | _ => .error .truncated

/-- The instruction the decoder reads from the low `nbits` bits of `w`, laid out as the hardware stores them. -/
def decodeTableWord (nbits w : Nat) : Option Instr :=
  match decodeBytes (bytesOfWord (BitVec.ofNat 16 (w % 2 ^ nbits))) with
  | .ok (i, _) => some i
  | .error _ => none

/-- A register index as its 4-bit field (R71). -/
def regBits (x : Reg) : BitVec 4 := BitVec.ofNat 4 x.val

/-- Format `NNN` (R70). -/
def encodeNNN (m : BitVec 4) (nnn : BitVec 12) : Word := m ++ nnn

/-- Formats `XNN` and `X` (R70). -/
def encodeXNN (m : BitVec 4) (x : Reg) (nn : Byte) : Word := m ++ (regBits x ++ nn : BitVec 12)

/-- Formats `XY` and `XYN` (R70). -/
def encodeXYN (m : BitVec 4) (x y : Reg) (n : BitVec 4) : Word :=
  m ++ (regBits x ++ (regBits y ++ n : BitVec 8) : BitVec 12)

/-- The word of an instruction (R70, R76 to R81). -/
def encode : Instr → Word
  | .sys nnn => encodeNNN 0x0 nnn
  | .cls => 0x00E0
  | .ret => 0x00EE
  | .exit => 0x00FD
  | .jp nnn => encodeNNN 0x1 nnn
  | .call nnn => encodeNNN 0x2 nnn
  | .seImm x nn => encodeXNN 0x3 x nn
  | .sneImm x nn => encodeXNN 0x4 x nn
  | .seReg x y => encodeXYN 0x5 x y 0x0
  | .ldImm x nn => encodeXNN 0x6 x nn
  | .addImm x nn => encodeXNN 0x7 x nn
  | .ldReg x y => encodeXYN 0x8 x y 0x0
  | .orReg x y => encodeXYN 0x8 x y 0x1
  | .andReg x y => encodeXYN 0x8 x y 0x2
  | .xorReg x y => encodeXYN 0x8 x y 0x3
  | .addReg x y => encodeXYN 0x8 x y 0x4
  | .sub x y => encodeXYN 0x8 x y 0x5
  | .shr x y => encodeXYN 0x8 x y 0x6
  | .subn x y => encodeXYN 0x8 x y 0x7
  | .shl x y => encodeXYN 0x8 x y 0xE
  | .sneReg x y => encodeXYN 0x9 x y 0x0
  | .ldI nnn => encodeNNN 0xA nnn
  | .jpV0 nnn => encodeNNN 0xB nnn
  | .rnd x nn => encodeXNN 0xC x nn
  | .drw x y n => encodeXYN 0xD x y n
  | .skp x => encodeXNN 0xE x 0x9E
  | .sknp x => encodeXNN 0xE x 0xA1
  | .ldVDt x => encodeXNN 0xF x 0x07
  | .ldK x => encodeXNN 0xF x 0x0A
  | .ldDtV x => encodeXNN 0xF x 0x15
  | .ldStV x => encodeXNN 0xF x 0x18
  | .addI x => encodeXNN 0xF x 0x1E
  | .ldF x => encodeXNN 0xF x 0x29
  | .ldHf x => encodeXNN 0xF x 0x30
  | .ldB x => encodeXNN 0xF x 0x33
  | .ldMemFromV x => encodeXNN 0xF x 0x55
  | .ldVFromMem x => encodeXNN 0xF x 0x65

/-- The `DB` directive (R88): bytes in order. -/
def directiveDB (bytes : List Byte) : List Byte := bytes

/-- The `DW` directive (R88): each 16-bit value big-endian. -/
def directiveDW (words : List Word) : List Byte := words.flatMap bytesOfWord

/-- One row of spec/opcode_table.json: a word is of the row when `op &&& mask = pattern`; rows are tried in increasing
`priority` (R74, R82). -/
structure Row where
  mnemonic : String
  pattern  : Word
  mask     : Word
  priority : Nat
  deriving DecidableEq, Repr

/-- The row of spec/opcode_table.json that an instruction stands for. -/
def Instr.row : Instr → Row
  | .sys _ => ⟨"SYS", 0x0000, 0xF000, 2⟩
  | .cls => ⟨"CLS", 0x00E0, 0xFFFF, 1⟩
  | .ret => ⟨"RET", 0x00EE, 0xFFFF, 1⟩
  | .exit => ⟨"EXIT", 0x00FD, 0xFFFF, 1⟩
  | .jp _ => ⟨"JP", 0x1000, 0xF000, 1⟩
  | .call _ => ⟨"CALL", 0x2000, 0xF000, 1⟩
  | .seImm _ _ => ⟨"SE_IMM", 0x3000, 0xF000, 1⟩
  | .sneImm _ _ => ⟨"SNE_IMM", 0x4000, 0xF000, 1⟩
  | .seReg _ _ => ⟨"SE_REG", 0x5000, 0xF00F, 1⟩
  | .ldImm _ _ => ⟨"LD_IMM", 0x6000, 0xF000, 1⟩
  | .addImm _ _ => ⟨"ADD_IMM", 0x7000, 0xF000, 1⟩
  | .ldReg _ _ => ⟨"LD_REG", 0x8000, 0xF00F, 1⟩
  | .orReg _ _ => ⟨"OR", 0x8001, 0xF00F, 1⟩
  | .andReg _ _ => ⟨"AND", 0x8002, 0xF00F, 1⟩
  | .xorReg _ _ => ⟨"XOR", 0x8003, 0xF00F, 1⟩
  | .addReg _ _ => ⟨"ADD_REG", 0x8004, 0xF00F, 1⟩
  | .sub _ _ => ⟨"SUB", 0x8005, 0xF00F, 1⟩
  | .shr _ _ => ⟨"SHR", 0x8006, 0xF00F, 1⟩
  | .subn _ _ => ⟨"SUBN", 0x8007, 0xF00F, 1⟩
  | .shl _ _ => ⟨"SHL", 0x800E, 0xF00F, 1⟩
  | .sneReg _ _ => ⟨"SNE_REG", 0x9000, 0xF00F, 1⟩
  | .ldI _ => ⟨"LD_I", 0xA000, 0xF000, 1⟩
  | .jpV0 _ => ⟨"JP_V0", 0xB000, 0xF000, 1⟩
  | .rnd _ _ => ⟨"RND", 0xC000, 0xF000, 1⟩
  | .drw _ _ _ => ⟨"DRW", 0xD000, 0xF000, 1⟩
  | .skp _ => ⟨"SKP", 0xE09E, 0xF0FF, 1⟩
  | .sknp _ => ⟨"SKNP", 0xE0A1, 0xF0FF, 1⟩
  | .ldVDt _ => ⟨"LD_V_DT", 0xF007, 0xF0FF, 1⟩
  | .ldK _ => ⟨"LD_K", 0xF00A, 0xF0FF, 1⟩
  | .ldDtV _ => ⟨"LD_DT_V", 0xF015, 0xF0FF, 1⟩
  | .ldStV _ => ⟨"LD_ST_V", 0xF018, 0xF0FF, 1⟩
  | .addI _ => ⟨"ADD_I", 0xF01E, 0xF0FF, 1⟩
  | .ldF _ => ⟨"LD_F", 0xF029, 0xF0FF, 1⟩
  | .ldHf _ => ⟨"LD_HF", 0xF030, 0xF0FF, 1⟩
  | .ldB _ => ⟨"LD_B", 0xF033, 0xF0FF, 1⟩
  | .ldMemFromV _ => ⟨"LD_MEM_FROM_V", 0xF055, 0xF0FF, 1⟩
  | .ldVFromMem _ => ⟨"LD_V_FROM_MEM", 0xF065, 0xF0FF, 1⟩

/-- One instruction of each row of spec/opcode_table.json, in its order; the operands do not matter. -/
def tableInstrs : List Instr :=
  [.sys 0, .cls, .ret, .exit, .jp 0, .call 0, .seImm 0 0, .sneImm 0 0] ++
  [.seReg 0 0, .ldImm 0 0, .addImm 0 0, .ldReg 0 0, .orReg 0 0, .andReg 0 0, .xorReg 0 0, .addReg 0 0] ++
  [.sub 0 0, .shr 0 0, .subn 0 0, .shl 0 0, .sneReg 0 0, .ldI 0, .jpV0 0, .rnd 0 0] ++
  [.drw 0 0 0, .skp 0, .sknp 0, .ldVDt 0, .ldK 0, .ldDtV 0, .ldStV 0, .addI 0] ++
  [.ldF 0, .ldHf 0, .ldB 0, .ldMemFromV 0, .ldVFromMem 0]

/-- The 37 rows of spec/opcode_table.json, in its order. -/
def opcodeTable : List Row := tableInstrs.map Instr.row

/-- A word is of a row (R74). -/
def Row.covers (r : Row) (op : Word) : Bool := op &&& r.mask == r.pattern

end Sys2Proof
end

