-- ==== Sys2Proof/Config.lean ====
section
/-! DEFINITION. The parameters the spec leaves open (R7), as plain data, and the model's free values. -/

namespace Sys2Proof

/-- OOB_POLICY (R7, R52, R53): what an access at an address above 0xFFF does. -/
inductive OobPolicy where
  | wrap    -- the index is the address mod 4096 (the default)
  | fault   -- the step raises MemFault and has no effect
  deriving DecidableEq, Repr

/-- DIRTY_POLICY (R7, R106): which cells DXYN marks dirty. -/
inductive DirtyPolicy where
  | toggled  -- the cells of the toggled pixels (the default)
  | spanned  -- the one or two cells each row covers
  deriving DecidableEq, Repr

/-- The open parameters of R7. CPU_INTERVAL and TIMER_INTERVAL are used by no rule and are left out. -/
structure Config where
  oobPolicy        : OobPolicy
  shiftUsesVy      : Bool
  logicResetsVf    : Bool
  ldstIncrementsI  : Bool
  fx1eClearsVf     : Bool
  dirtyPolicy      : DirtyPolicy
  fontImage        : Vector Byte 80
  extFontBase      : Option Word  -- none: not supplied, a free value
  extFontImage     : List Byte
  deriving DecidableEq, Repr

/-- EXT_FONT_BASE where it is not supplied: the spec gives no default (R7, D5), so the constant has no value.
DESIGN CHOICE, log entry 2; safe. -/
opaque Config.openExtFontBase : Word

/-- `RandomByte()` (R39, R151): the byte of the n-th draw, unconstrained. A free value; log entry 3; safe. -/
opaque Config.randomByte : Nat → Byte

/-- The bytes of the default FONT_IMAGE, the table of R262, two glyphs a line. PRESUMED (the spec marks it general
knowledge); log entry 7; unsafe. -/
def Config.defaultFontBytes : List Byte :=
  [0xF0, 0x90, 0x90, 0x90, 0xF0,  0x20, 0x60, 0x20, 0x20, 0x70] ++
  [0xF0, 0x10, 0xF0, 0x80, 0xF0,  0xF0, 0x10, 0xF0, 0x10, 0xF0] ++
  [0x90, 0x90, 0xF0, 0x10, 0x10,  0xF0, 0x80, 0xF0, 0x10, 0xF0] ++
  [0xF0, 0x80, 0xF0, 0x90, 0xF0,  0xF0, 0x10, 0x20, 0x40, 0x40] ++
  [0xF0, 0x90, 0xF0, 0x90, 0xF0,  0xF0, 0x90, 0xF0, 0x10, 0xF0] ++
  [0xF0, 0x90, 0xF0, 0x90, 0x90,  0xE0, 0x90, 0xE0, 0x90, 0xE0] ++
  [0xF0, 0x80, 0x80, 0x80, 0xF0,  0xE0, 0x90, 0x90, 0x90, 0xE0] ++
  [0xF0, 0x80, 0xF0, 0x80, 0xF0,  0xF0, 0x80, 0xF0, 0x80, 0x80]

/-- The default FONT_IMAGE (R7, R262). -/
def Config.defaultFont : Vector Byte 80 := ⟨Config.defaultFontBytes.toArray, rfl⟩

/-- The defaults of R7. -/
def Config.default : Config where
  oobPolicy       := .wrap
  shiftUsesVy     := false
  logicResetsVf   := false
  ldstIncrementsI := false
  fx1eClearsVf    := false
  dirtyPolicy     := .toggled
  fontImage       := Config.defaultFont
  extFontBase     := none
  extFontImage    := []

/-- FONT_BASE (R6). -/
def fontBase : Nat := 0x50

/-- ROM_BASE, also the reset PC (R6). -/
def romBase : Nat := 0x200

/-- MEM_SIZE (R6). -/
def memSize : Nat := 4096

/-- ROM_MAX (R6). -/
def romMax : Nat := 3584

end Sys2Proof
end

