-- ==== Sys2Proof/Machine/State.lean ====
section
/-! DEFINITION. The state of the block (10_state.md), as plain data, and its value at reset. -/

namespace Sys2Proof.Machine

/-- Why a step stops. -/
inductive Fault where
  /-- MemFault (R53), raised by a fetch, DXYN, FX33, FX55 or FX65 only under OOB_POLICY = `fault`, at the first address
  above 0xFFF in the order of the accesses (log entry 9). Safe: the spec offers it as a stop. -/
  | memFault (addr : Nat)
  deriving DecidableEq, Repr

/-- Why a step has no meaning. -/
inductive Refusal where
  /-- Raised by an arm of `exec` whose instruction has no meaning yet; no arm raises it. Safe. -/
  | notModelled (mnemonic : String)
  deriving DecidableEq, Repr

/-- The lifecycle flag register (R34), one field per bit, bit 0 first. -/
structure LifecycleFlags where
  romLoaded      : Bool  -- bit 0, ROM_LOADED
  running        : Bool  -- bit 1, RUNNING
  initialized    : Bool  -- bit 2, INITIALIZED
  cpuDrawPending : Bool  -- bit 3, CPU_DRAW_PENDING
  gpuDrawReady   : Bool  -- bit 4, GPU_DRAW_READY
  soundActive    : Bool  -- bit 5, SOUND_ACTIVE
  paused         : Bool  -- bit 6, PAUSED (reserved)
  hwTimerMode    : Bool  -- bit 7, HW_TIMER_MODE
  deriving DecidableEq, Repr

/-- All eight flags 0 (R34, R266). -/
def LifecycleFlags.clear : LifecycleFlags where
  romLoaded      := false
  running        := false
  initialized    := false
  cpuDrawPending := false
  gpuDrawReady   := false
  soundActive    := false
  paused         := false
  hwTimerMode    := false

/-- What the world outside the core does (R230, R240 to R245, R248). -/
inductive Input where
  | load (bytes : List Byte)                   -- host: R240
  | start (hwTimerMode : Bool)                 -- host: R241
  | pump (cpuElapsed timerElapsed : Bool)      -- host: R242
  | stop                                       -- host: R243
  | setKey (k : Fin 16) (pressed : Bool)       -- input source: R244
  | clearDirty (r : Fin 32) (c : Fin 8)        -- renderer: R245
  | resetDraw                                  -- renderer: R245
  | cpuPulse                                   -- pulse source: R248
  | timerPulse                                 -- pulse source: R248
  deriving DecidableEq, Repr

/-- The memory array (R32): address and byte, addresses strictly rising, no byte that an unlisted address reads as. -/
abbrev Memory := List Host.Cell

/-- The framebuffer (R33): 32 rows of 64 pixels; the pixel of column x is the x-th bit from the most significant end,
so a row's eight bytes are its packed bytes (log entry 13). -/
abbrev Framebuffer := Vector (BitVec 64) 32

/-- The dirty matrix (R36): 32 rows; bit c is the cell of columns 8c to 8c + 7 (log entry 13). -/
abbrev DirtyMatrix := Vector (BitVec 8) 32

/-- The state of the block (the state record of 10_state.md). The last three fields are the model's own. -/
structure State where
  mem        : Memory                -- R32
  v          : Vector Byte 16        -- V0 to VF, R20
  i          : Word                  -- I, R27
  pc         : Word                  -- PC, R23
  stack      : Vector Word 16        -- R29
  sp         : Fin 17                -- SP, the number of occupied slots, R28
  dt         : Byte                  -- DT, R30
  st         : Byte                  -- ST, R31
  fb         : Framebuffer           -- R33
  dirty      : DirtyMatrix           -- R36
  flags      : LifecycleFlags        -- R34
  keys       : Vector Bool 16        -- R37
  pulseCpu   : Bool                  -- R38
  pulseTimer : Bool                  -- R38
  cfg        : Config                -- the parameters of R7; no step changes them (log entry 1)
  draws      : Nat                   -- how many random bytes have been drawn (log entry 3)
  inputs     : List Input            -- what the outside does next, in order (log entry 4)
  deriving DecidableEq, Repr

/-- The block at construction (R43, R260), in the default configuration (R7). -/
def State.reset : State where
  mem        := []
  v          := Vector.replicate 16 0
  i          := 0
  pc         := 0
  stack      := Vector.replicate 16 0
  sp         := 0
  dt         := 0
  st         := 0
  fb         := Vector.replicate 32 0
  dirty      := Vector.replicate 32 0xFF
  flags      := LifecycleFlags.clear
  keys       := Vector.replicate 16 false
  pulseCpu   := false
  pulseTimer := false
  cfg        := Config.default
  draws      := 0
  inputs     := []

end Sys2Proof.Machine
end

