-- ==== Sys2Proof/Machine/Memory.lean ====
section
/-! DEFINITION. The memory array as sparse plain data (R32, R50 to R56). -/

namespace Sys2Proof.Machine

/-- `Ix(addr)` under OOB_POLICY = `wrap` (R52). -/
def ix (addr : Nat) : Nat := addr % memSize

/-- The byte at an index. An unlisted index reads as 0, the construction value (R32; log entry 10). -/
def Memory.read (m : Memory) (k : Nat) : Byte :=
  match m with
  | [] => 0
  | (a, b) :: rest => if a = k then b else Memory.read rest k

/-- Put a byte at its place in the rising order. -/
def Memory.insert (m : Memory) (k : Nat) (b : Byte) : Memory :=
  match m with
  | [] => [(k, b)]
  | (a, c) :: rest =>
    if k < a then (k, b) :: (a, c) :: rest
    else if a = k then (k, b) :: rest
    else (a, c) :: Memory.insert rest k b

/-- Drop an index, which then reads as 0. -/
def Memory.erase (m : Memory) (k : Nat) : Memory := m.filter (fun c => c.1 != k)

/-- Write one byte, keeping the canonical form: writing 0 removes the entry. -/
def Memory.write (m : Memory) (k : Nat) (b : Byte) : Memory :=
  if b = 0 then m.erase k else m.insert k b

/-- Write bytes at ascending addresses from `base`, each through `Ix` (R51, R57, R261). -/
def Memory.writeBytes (m : Memory) (base : Nat) (bytes : List Byte) : Memory :=
  match bytes with
  | [] => m
  | b :: rest => Memory.writeBytes (m.write (ix base) b) (base + 1) rest

/-- The canonical form: addresses strictly rising, inside the address space, no entry 0. -/
abbrev Memory.wf (m : Memory) : Prop :=
  m.Pairwise (fun c d => c.1 < d.1) ∧ ∀ c ∈ m, c.1 < memSize ∧ c.2 ≠ 0

end Sys2Proof.Machine
end

