-- ==== Sys2Proof/Machine/Ops.lean ====
section
/-! DEFINITION. The named operations over registers, stack, memory and flags that every meaning is written with.
The hardware takes no exception and returns from none (R220 to R226): the one stop is `raiseMemFault`. -/

namespace Sys2Proof.Machine

/-- What an instruction answers. -/
abbrev Result := Host.Outcome State Fault Refusal

/-- VF, register 15 (R21). -/
def vf : Reg := 15

/-- `V[x]` (R10, R20). -/
def State.reg (s : State) (x : Reg) : Byte := s.v[x]

/-- `V[x] <- b` (R10, R20). -/
def State.setV (s : State) (x : Reg) (b : Byte) : State := { s with v := s.v.set x b }

/-- All sixteen V registers at once (FX65). -/
def State.setRegs (s : State) (v : Vector Byte 16) : State := { s with v := v }

/-- `PC <- a` (R23). -/
def State.setPc (s : State) (a : Word) : State := { s with pc := a }

/-- `I <- a` (R27). -/
def State.setI (s : State) (a : Word) : State := { s with i := a }

/-- `DT <- b` (R30). -/
def State.setDt (s : State) (b : Byte) : State := { s with dt := b }

/-- `ST <- b` (R31). -/
def State.setSt (s : State) (b : Byte) : State := { s with st := b }

/-- Replace the memory array (R32). -/
def State.setMem (s : State) (m : Memory) : State := { s with mem := m }

/-- Replace the framebuffer (R33). -/
def State.setFb (s : State) (fb : Framebuffer) : State := { s with fb := fb }

/-- Replace the dirty matrix (R36). -/
def State.setDirty (s : State) (d : DirtyMatrix) : State := { s with dirty := d }

/-- Replace the lifecycle flags (R34). -/
def State.setFlags (s : State) (f : LifecycleFlags) : State := { s with flags := f }

/-- `PC <- (pc + 2) mod 2^16` (R24, R26). -/
def State.advance (s : State) : State := s.setPc (s.pc + 2)

/-- A skip instruction: `pc + 4` if the condition holds, else `pc + 2` (R24, R128). -/
def State.skipIf (s : State) (c : Bool) : State := s.setPc (if c then s.pc + 4 else s.pc + 2)

/-- Push (R29, R122): `stack[SP] <- a`, then SP + 1; none when all 16 slots are occupied. -/
def State.push (s : State) (a : Word) : Option State :=
  if h : s.sp.val < 16 then
    some { s with stack := s.stack.set s.sp.val a, sp := ⟨s.sp.val + 1, by omega⟩ }
  else none

/-- Pop (R29, R120): SP - 1 first, then the slot SP names; the slot is not cleared; none when the stack is empty. -/
def State.pop (s : State) : Option (Word × State) :=
  if h : 0 < s.sp.val then
    some (s.stack[s.sp.val - 1]'(by omega), { s with sp := ⟨s.sp.val - 1, by omega⟩ })
  else none

/-- `MemRead(addr, 1)` (R10, R52). -/
def State.read (s : State) (addr : Nat) : Byte := s.mem.read (ix addr)

/-- The first of `count` ascending addresses from `base` that is above 0xFFF (R53). -/
def firstAbove (base count : Nat) : Option Nat :=
  if count = 0 then none else if base + count ≤ memSize then none else some (max base memSize)

/-- The address at which an access of `count` bytes from `base` raises MemFault: never under `wrap` (R52), the first one
above 0xFFF under `fault` (R53; log entry 9). -/
def State.memFaultAt (s : State) (base count : Nat) : Option Nat :=
  match s.cfg.oobPolicy with
  | .wrap => none
  | .fault => firstAbove base count

/-- `raise MemFault(addr)` (R53): the step has no effect and the machine stops. -/
def raiseMemFault (addr : Nat) : Result := .fault (.memFault addr)

/-- Run `k` unless accessing `count` bytes from `base` raises MemFault (R52, R53). -/
def State.access (s : State) (base count : Nat) (k : Result) : Result :=
  match s.memFaultAt base count with
  | some a => raiseMemFault a
  | none => k

/-- `Fetch16(a)` (R72): big-endian, each byte through `Ix`. -/
def State.fetch16 (s : State) (a : Nat) : Word := wordOfBytes (s.read a) (s.read (a + 1))

/-- Raise the draw signal CPU_DRAW_PENDING (R102, R107). -/
def State.raiseDraw (s : State) : State := s.setFlags { s.flags with cpuDrawPending := true }

/-- `RandomByte()` (R39, R151): the byte of this draw, a free value, and the state after the draw (log entry 3). -/
def State.drawByte (s : State) : Byte × State := (Config.randomByte s.draws, { s with draws := s.draws + 1 })

/-- The lifecycle flags as the register of R34, bit 0 = ROM_LOADED. -/
def LifecycleFlags.toByte (f : LifecycleFlags) : Byte :=
  BitVec.ofNat 8 (f.romLoaded.toNat + 2 * f.running.toNat + 4 * f.initialized.toNat + 8 * f.cpuDrawPending.toNat
    + 16 * f.gpuDrawReady.toNat + 32 * f.soundActive.toNat + 64 * f.paused.toNat + 128 * f.hwTimerMode.toNat)

/-- The stop state change (R266), run by stop() and by EXIT (R211): every flag and both pulse flags cleared. -/
def State.stopCore (s : State) : State :=
  { s with flags := LifecycleFlags.clear, pulseCpu := false, pulseTimer := false }

/-- Store one opcode at an address, the high byte first (R54). -/
def State.placeWord (s : State) (addr : Nat) (op : Word) : State :=
  s.setMem (s.mem.writeBytes addr (bytesOfWord op))

/-- A machine whose very next step runs one instruction cadence and no timer tick: the flags as load and start(false)
leave them (R267), and nothing queued from outside (log entry 11). -/
def State.armed (s : State) : State :=
  { s with
    flags := { s.flags with romLoaded := true, running := true, initialized := true, hwTimerMode := false }
    inputs := [] }

end Sys2Proof.Machine
end

