-- ==== Sys2Proof/Machine/Flags.lean ====
section
/-! DEFINITION. The flag computations of VF, the one condition flag (R21, R40). -/

namespace Sys2Proof.Machine

/-- A flag as the byte VF holds. -/
def flagByte (b : Bool) : Byte := if b then 1 else 0

/-- `VF <- flag`: always the last register write of its instruction (R105, R153). -/
def State.setFlag (s : State) (b : Bool) : State := s.setV vf (flagByte b)

/-- 8XY4 (R146): the exact sum exceeds 255. -/
def carry (a b : Byte) : Bool := decide (255 < a.toNat + b.toNat)

/-- 8XY5 (R147), and 8XY7 with the operands reversed (R149): NOT borrow of `a - b`. -/
def notBorrow (a b : Byte) : Bool := decide (b.toNat ≤ a.toNat)

/-- 8XY6 (R148): bit 0, the bit a right shift drops. -/
def lowBit (a : Byte) : Bool := a.getLsbD 0

/-- 8XYE (R150): bit 7, the bit a left shift drops. -/
def highBit (a : Byte) : Bool := a.getLsbD 7

/-- FX1E (R171): the exact sum exceeds 0xFFF. -/
def indexOverflow (a : Word) (b : Byte) : Bool := decide (0xFFF < a.toNat + b.toNat)

/-- VF after 8XY1, 8XY2, 8XY3 (R143 to R145): 0 only when LOGIC_RESETS_VF. -/
def State.logicFlag (s : State) : State := if s.cfg.logicResetsVf then s.setFlag false else s

/-- VF after FX1E (R171): 1 on overflow; otherwise unchanged, or 0 when FX1E_CLEARS_VF. -/
def State.indexFlag (s : State) (overflow : Bool) : State :=
  if overflow then s.setFlag true else if s.cfg.fx1eClearsVf then s.setFlag false else s

end Sys2Proof.Machine
end

