-- ==== Sys2Proof/Machine/Operands.lean ====
section
/-! DEFINITION. The operand forms: the one data addressing mode I + k (R177), glyph addresses, key values, shift
sources and register blocks. -/

namespace Sys2Proof.Machine

/-- NNN zero-extended to an address or PC value (R75). -/
def zextNNN (nnn : BitVec 12) : Word := nnn.setWidth 16

/-- The effective address `I + k` as a natural number (R51, R177). -/
def State.ea (s : State) (k : Nat) : Nat := s.i.toNat + k

/-- The `n` bytes at I, I + 1, ... in ascending order (R51, R108). -/
def State.bytesAtI (s : State) (n : Nat) : List Byte := (List.range n).map (fun k => s.read (s.ea k))

/-- V0 .. Vx in order (R175). -/
def State.regsUpTo (s : State) (x : Reg) : List Byte := s.v.toList.take (x.val + 1)

/-- The V registers after `V[k] <- MemRead(I + k, 1)` for k = 0..x (R176; log entry 14). -/
def State.regsFromMem (s : State) (x : Reg) : Vector Byte 16 :=
  Vector.ofFn (fun k : Fin 16 => if k ≤ x then s.read (s.ea k.val) else s.v[k])

/-- I after FX55 or FX65 (R175, R176): unchanged, or `(I + x + 1) mod 2^16` when LDST_INCREMENTS_I. -/
def State.iAfterBlock (s : State) (x : Reg) : Word :=
  if s.cfg.ldstIncrementsI then s.i + BitVec.ofNat 16 (x.val + 1) else s.i

/-- The small-font glyph address `FONT_BASE + 5 * v` (R172): no mask on v. -/
def glyphAddr (v : Byte) : Word := BitVec.ofNat 16 (fontBase + 5 * v.toNat)

/-- EXT_FONT_BASE (R7, D5): as supplied, else the free value (log entry 2). -/
def extBase (c : Config) : Word := c.extFontBase.getD Config.openExtFontBase

/-- The extended-font glyph address `(EXT_FONT_BASE + 10 * v) mod 2^16` (R173). -/
def extGlyphAddr (base : Word) (v : Byte) : Word := base + BitVec.ofNat 16 (10 * v.toNat)

/-- The three decimal digits of a byte, hundreds first (R174). -/
def decimalDigits (d : Byte) : List Byte :=
  [BitVec.ofNat 8 (d.toNat / 100), BitVec.ofNat 8 (d.toNat / 10 % 10), BitVec.ofNat 8 (d.toNat % 10)]

/-- `Pressed(v)` (R190): a value above 0x0F names no key. -/
def State.pressed (s : State) (v : Byte) : Bool :=
  if h : v.toNat < 16 then s.keys[v.toNat] else false

/-- The lowest-indexed pressed key, each key read once in ascending order (R194). -/
def State.lowestKey (s : State) : Option (Fin 16) := (List.finRange 16).find? (fun k => s.keys[k])

/-- The value 8XY6 and 8XYE shift (R148, R150). -/
def State.shiftSource (s : State) (x y : Reg) : Byte := if s.cfg.shiftUsesVy then s.reg y else s.reg x

end Sys2Proof.Machine
end

