-- ==== Sys2Proof/Machine/Display.lean ====
section
/-! DEFINITION. The framebuffer, the dirty matrix, CLS and DRW (40_display.md). -/

namespace Sys2Proof.Machine

/-- `Fb(x, y)` (R33, R100). -/
def pixel (fb : Framebuffer) (x : Fin 64) (y : Fin 32) : Bool := fb[y].getMsbD x.val

/-- `Fb(x, y) <- Fb(x, y) ^ 1` (R100, R103). -/
def togglePixel (fb : Framebuffer) (x : Fin 64) (y : Fin 32) : Framebuffer :=
  fb.set y (fb[y] ^^^ BitVec.twoPow 64 (63 - x.val))

/-- `Dirty(r, c)` (R36). -/
def dirtyCell (d : DirtyMatrix) (r : Fin 32) (c : Fin 8) : Bool := d[r].getLsbD c.val

/-- `Dirty(r, c) <- 1` (R36). -/
def markCell (d : DirtyMatrix) (r : Fin 32) (c : Fin 8) : DirtyMatrix :=
  d.set r (d[r] ||| BitVec.twoPow 8 c.val)

/-- `Dirty(r, c) <- 0` (R245). -/
def unmarkCell (d : DirtyMatrix) (r : Fin 32) (c : Fin 8) : DirtyMatrix :=
  d.set r (d[r] &&& ~~~ BitVec.twoPow 8 c.val)

/-- Every pixel dark (R33, R102, R264). -/
def darkFb : Framebuffer := Vector.replicate 32 0

/-- Every cell dirty (R36, R102, R264). -/
def allDirty : DirtyMatrix := Vector.replicate 32 0xFF

/-- A column modulo 64 (R104). -/
def wrapX (n : Nat) : Fin 64 := Fin.ofNat 64 n

/-- A row modulo 32 (R104). -/
def wrapY (n : Nat) : Fin 32 := Fin.ofNat 32 n

/-- The dirty cell of a column, `x div 8` (R36). -/
def cellOf (x : Fin 64) : Fin 8 := ⟨x.val / 8, by omega⟩

/-- One sprite bit on the framebuffer and the collision so far (R103, R105): a 0 bit touches nothing. -/
def drawBit (x : Fin 64) (y : Fin 32) (bit : Bool) (c : Framebuffer × Bool) : Framebuffer × Bool :=
  if bit then (togglePixel c.1 x y, c.2 || pixel c.1 x y) else c

/-- One sprite row at column x0 of row y, its most significant bit leftmost (R103, R104). -/
def drawRow (x0 : Nat) (y : Fin 32) (b : Byte) (c : Framebuffer × Bool) : Framebuffer × Bool :=
  (List.range 8).foldl (fun c j => drawBit (wrapX (x0 + j)) y (b.getMsbD j) c) c

/-- The sprite rows from row y0, each row wrapped on its own (R103, R104). -/
def drawRows (x0 y0 : Nat) (bytes : List Byte) (c : Framebuffer × Bool) : Framebuffer × Bool :=
  match bytes with
  | [] => c
  | b :: rest => drawRows x0 (y0 + 1) rest (drawRow x0 (wrapY y0) b c)

/-- `MarkDirtyRow(y, x0, b)` (R106). -/
def markRow (policy : DirtyPolicy) (x0 : Nat) (y : Fin 32) (b : Byte) (d : DirtyMatrix) : DirtyMatrix :=
  match policy with
  | .toggled =>
    (List.range 8).foldl (fun d j => if b.getMsbD j then markCell d y (cellOf (wrapX (x0 + j))) else d) d
  | .spanned => markCell (markCell d y (cellOf (wrapX x0))) y (cellOf (wrapX (x0 + 7)))

/-- `MarkDirtyRow` for every sprite row (R103, R106). -/
def markRows (policy : DirtyPolicy) (x0 y0 : Nat) (bytes : List Byte) (d : DirtyMatrix) : DirtyMatrix :=
  match bytes with
  | [] => d
  | b :: rest => markRows policy x0 (y0 + 1) rest (markRow policy x0 (wrapY y0) b d)

/-- Byte `n` of the framebuffer as the renderer reads it (R33, R245): bit `7 - (x mod 8)` of byte `y*8 + x div 8` is
pixel (x, y). -/
def fbByte (fb : Framebuffer) (n : Fin 256) : Byte :=
  (fb[n.val / 8]'(by omega)).extractLsb' (8 * (7 - n.val % 8)) 8

/-- 00E0 CLS (R102). -/
def execCls (s : State) : Result :=
  .next ((s.setFb darkFb).setDirty allDirty).raiseDraw.advance

/-- The state after the sprite bytes are drawn at Vx, Vy (R103 to R110): operands first, VF last. -/
def State.drawSprite (s : State) (x y : Reg) (bytes : List Byte) : State :=
  let x0 := (s.reg x).toNat % 64
  let y0 := (s.reg y).toNat % 32
  let c := drawRows x0 y0 bytes (s.fb, false)
  (((s.setFb c.1).setDirty (markRows s.cfg.dirtyPolicy x0 y0 bytes s.dirty)).setFlag c.2).raiseDraw

/-- DXYN DRW (R103 to R110). -/
def execDrw (x y : Reg) (n : BitVec 4) (s : State) : Result :=
  s.access (s.ea 0) n.toNat (.next (s.drawSprite x y (s.bytesAtI n.toNat)).advance)

end Sys2Proof.Machine
end

