-- ==== Sys2Proof/Machine/Lifecycle.lean ====
section
/-! DEFINITION. load, start and stop (70_reset_and_hazards.md R261 to R267). Each answers its boolean result and the
state after it. -/

namespace Sys2Proof.Machine

/-- The memory a successful load leaves (R58, R261): zeros, the font, the extended font, the ROM, in that order
(log entry 15 for the extended font's addresses). -/
def loadImage (cfg : Config) (rom : List Byte) : Memory :=
  ((Memory.writeBytes [] fontBase cfg.fontImage.toList).writeBytes (extBase cfg).toNat cfg.extFontImage).writeBytes
    romBase rom

/-- `load(bytes, len)` (R240, R261, R263): any lifecycle state; too long a ROM changes nothing. -/
def State.load (s : State) (bytes : List Byte) : Bool × State :=
  if bytes.length ≤ romMax then
    (true, { s with mem := loadImage s.cfg bytes, flags := { s.flags with romLoaded := true } })
  else (false, s)

/-- `initialize()` (R264): registers, stack, timers, framebuffer and dirty matrix; not memory, keys or flags. -/
def State.initRegs (s : State) : State :=
  { s with
    pc := BitVec.ofNat 16 romBase
    i := 0
    sp := 0
    dt := 0
    st := 0
    stack := Vector.replicate 16 0
    v := Vector.replicate 16 0
    fb := darkFb
    dirty := allDirty }

/-- `start(hw_timer_mode)` (R241, R265). -/
def State.start (s : State) (hwTimerMode : Bool) : Bool × State :=
  if s.flags.romLoaded = false ∨ s.flags.running = true then (false, s)
  else
    (true, { s.initRegs with
      pulseCpu := false
      pulseTimer := false
      flags := { s.flags with hwTimerMode := hwTimerMode, initialized := true, running := true } })

/-- `stop()` (R243, R266). -/
def State.stop (s : State) : Bool × State :=
  if s.flags.running then (true, s.stopCore) else (false, s)

end Sys2Proof.Machine
end

