-- ==== Sys2Proof/Machine/Alu.lean ====
section
/-! DEFINITION. Register loads and arithmetic (42_alu.md). Operands are read first, Vx is written, VF last (R153). -/

namespace Sys2Proof.Machine

/-- Write the result, then the flag, then advance (R153). -/
def State.withResult (s : State) (x : Reg) (r : Byte) (flag : Bool) : State := ((s.setV x r).setFlag flag).advance

/-- 6XNN LD (R140). -/
def execLdImm (x : Reg) (nn : Byte) (s : State) : Result := .next (s.setV x nn).advance

/-- 7XNN ADD (R141): no flag. -/
def execAddImm (x : Reg) (nn : Byte) (s : State) : Result := .next (s.setV x (s.reg x + nn)).advance

/-- 8XY0 LD (R142). -/
def execLdReg (x y : Reg) (s : State) : Result := .next (s.setV x (s.reg y)).advance

/-- 8XY1 OR (R143). -/
def execOr (x y : Reg) (s : State) : Result := .next (s.setV x (s.reg x ||| s.reg y)).logicFlag.advance

/-- 8XY2 AND (R144). -/
def execAnd (x y : Reg) (s : State) : Result := .next (s.setV x (s.reg x &&& s.reg y)).logicFlag.advance

/-- 8XY3 XOR (R145). -/
def execXor (x y : Reg) (s : State) : Result := .next (s.setV x (s.reg x ^^^ s.reg y)).logicFlag.advance

/-- 8XY4 ADD (R146). -/
def execAddReg (x y : Reg) (s : State) : Result :=
  .next (s.withResult x (s.reg x + s.reg y) (carry (s.reg x) (s.reg y)))

/-- 8XY5 SUB (R147). -/
def execSub (x y : Reg) (s : State) : Result :=
  .next (s.withResult x (s.reg x - s.reg y) (notBorrow (s.reg x) (s.reg y)))

/-- 8XY6 SHR (R148). -/
def execShr (x y : Reg) (s : State) : Result :=
  .next (s.withResult x (s.shiftSource x y >>> 1) (lowBit (s.shiftSource x y)))

/-- 8XY7 SUBN (R149). -/
def execSubn (x y : Reg) (s : State) : Result :=
  .next (s.withResult x (s.reg y - s.reg x) (notBorrow (s.reg y) (s.reg x)))

/-- 8XYE SHL (R150). -/
def execShl (x y : Reg) (s : State) : Result :=
  .next (s.withResult x (s.shiftSource x y <<< 1) (highBit (s.shiftSource x y)))

/-- CXNN RND (R151). -/
def execRnd (x : Reg) (nn : Byte) (s : State) : Result :=
  .next (s.drawByte.2.setV x (s.drawByte.1 &&& nn)).advance

end Sys2Proof.Machine
end

