-- ==== Sys2Proof/Machine/Control.lean ====
section
/-! DEFINITION. Control transfer (41_control_flow.md). -/

namespace Sys2Proof.Machine

/-- 00EE RET (R120): with an empty stack, a no-op that advances PC. -/
def execRet (s : State) : Result :=
  match s.pop with
  | some (a, t) => .next (t.setPc a)
  | none => .next s.advance

/-- 1NNN JP (R121). -/
def execJp (nnn : BitVec 12) (s : State) : Result := .next (s.setPc (zextNNN nnn))

/-- 2NNN CALL (R122): with a full stack the whole call is dropped. -/
def execCall (nnn : BitVec 12) (s : State) : Result :=
  match s.push (s.pc + 2) with
  | some t => .next (t.setPc (zextNNN nnn))
  | none => .next s.advance

/-- 3XNN SE (R123). -/
def execSeImm (x : Reg) (nn : Byte) (s : State) : Result := .next (s.skipIf (s.reg x == nn))

/-- 4XNN SNE (R124). -/
def execSneImm (x : Reg) (nn : Byte) (s : State) : Result := .next (s.skipIf (s.reg x != nn))

/-- 5XY0 SE (R125). -/
def execSeReg (x y : Reg) (s : State) : Result := .next (s.skipIf (s.reg x == s.reg y))

/-- 9XY0 SNE (R126). -/
def execSneReg (x y : Reg) (s : State) : Result := .next (s.skipIf (s.reg x != s.reg y))

/-- BNNN JP V0 (R127): always V0, unmasked, mod 2^16. -/
def execJpV0 (nnn : BitVec 12) (s : State) : Result := .next (s.setPc (zextNNN nnn + zext16 (s.reg 0)))

end Sys2Proof.Machine
end

