-- ==== Sys2Proof/Machine/Index.lean ====
section
/-! DEFINITION. The index register and memory transfer (43_index_memory.md). -/

namespace Sys2Proof.Machine

/-- ANNN LD I (R170). -/
def execLdI (nnn : BitVec 12) (s : State) : Result := .next (s.setI (zextNNN nnn)).advance

/-- FX1E ADD I (R171): the sum from the operands as read, the flag, then `I <- sum & 0xFFF`. -/
def execAddI (x : Reg) (s : State) : Result :=
  .next ((s.indexFlag (indexOverflow s.i (s.reg x))).setI ((s.i + zext16 (s.reg x)) &&& 0xFFF)).advance

/-- FX29 LD F (R172). -/
def execLdF (x : Reg) (s : State) : Result := .next (s.setI (glyphAddr (s.reg x))).advance

/-- FX30 LD HF (R173). -/
def execLdHf (x : Reg) (s : State) : Result := .next (s.setI (extGlyphAddr (extBase s.cfg) (s.reg x))).advance

/-- FX33 LD B (R174). -/
def execLdB (x : Reg) (s : State) : Result :=
  s.access (s.ea 0) 3 (.next (s.setMem (s.mem.writeBytes (s.ea 0) (decimalDigits (s.reg x)))).advance)

/-- FX55 LD [I] (R175). -/
def execLdMemFromV (x : Reg) (s : State) : Result :=
  s.access (s.ea 0) (x.val + 1)
    (.next ((s.setMem (s.mem.writeBytes (s.ea 0) (s.regsUpTo x))).setI (s.iAfterBlock x)).advance)

/-- FX65 LD Vx, [I] (R176). -/
def execLdVFromMem (x : Reg) (s : State) : Result :=
  s.access (s.ea 0) (x.val + 1) (.next ((s.setRegs (s.regsFromMem x)).setI (s.iAfterBlock x)).advance)

end Sys2Proof.Machine
end

