-- ==== Sys2Proof/Machine/KeysTimers.lean ====
section
/-! DEFINITION. Key and timer instructions (44_keys_timers.md). -/

namespace Sys2Proof.Machine

/-- EX9E SKP (R191). -/
def execSkp (x : Reg) (s : State) : Result := .next (s.skipIf (s.pressed (s.reg x)))

/-- EXA1 SKNP (R192). -/
def execSknp (x : Reg) (s : State) : Result := .next (s.skipIf (!s.pressed (s.reg x)))

/-- FX07 LD Vx, DT (R193). -/
def execLdVDt (x : Reg) (s : State) : Result := .next (s.setV x s.dt).advance

/-- FX0A LD Vx, K (R194): with no key pressed PC stays and nothing is written. -/
def execLdK (x : Reg) (s : State) : Result :=
  match s.lowestKey with
  | some k => .next (s.setV x (BitVec.ofNat 8 k.val)).advance
  | none => .next s

/-- FX15 LD DT, Vx (R195). -/
def execLdDtV (x : Reg) (s : State) : Result := .next (s.setDt (s.reg x)).advance

/-- FX18 LD ST, Vx (R196): SOUND_ACTIVE is not written here. -/
def execLdStV (x : Reg) (s : State) : Result := .next (s.setSt (s.reg x)).advance

end Sys2Proof.Machine
end

