-- ==== Sys2Proof/Machine/System.lean ====
section
/-! DEFINITION. System instructions (45_system.md). -/

namespace Sys2Proof.Machine

/-- 0NNN SYS (R210): a no-op; NNN is ignored. -/
def execSys (_nnn : BitVec 12) (s : State) : Result := .next s.advance

/-- 00FD EXIT (R211): advance, then the stop state change of R266. -/
def execExit (s : State) : Result := .next s.advance.stopCore

end Sys2Proof.Machine
end

