-- ==== Sys2Proof/Machine/Scheduler.lean ====
section
/-! DEFINITION. The instruction step (R73) and the cycle scheduler (60_exceptions.md R229 to R237). -/

namespace Sys2Proof.Machine

/-- Run a decoded word: an unknown word is a no-op that advances PC (R73, R84). -/
def State.runWord (s : State) (op : Word) : Result :=
  match decode op with
  | .ok i => exec i s
  | .error _ => .next s.advance

/-- `step()` (R73): fetch at PC, decode, execute. -/
def instrStep (s : State) : Result :=
  s.access s.pc.toNat 2 (s.runWord (s.fetch16 s.pc.toNat))

/-- The draw promotion of a timer tick (R234, R237). -/
def LifecycleFlags.promoteDraw (f : LifecycleFlags) : LifecycleFlags :=
  if f.cpuDrawPending then { f with gpuDrawReady := true, cpuDrawPending := false } else f

/-- A timer one tick later: it stops at 0 (R234). -/
def tickDown (b : Byte) : Byte := if b = 0 then 0 else b - 1

/-- `timer_tick()` (R234): SOUND_ACTIVE becomes whether ST is nonzero after the tick. -/
def State.timerTick (s : State) : State :=
  { s with
    dt := tickDown s.dt
    st := tickDown s.st
    flags := { s.flags.promoteDraw with soundActive := tickDown s.st != 0 } }

/-- Whether each cadence fires: instruction, timer (R229 to R232). -/
def State.due (s : State) (cpuElapsed timerElapsed : Bool) : Bool × Bool :=
  if s.flags.hwTimerMode then (s.pulseCpu, s.pulseTimer) else (cpuElapsed, timerElapsed)

/-- The read-and-clear of both pulse flags, in hardware-timer mode only (R229, R231, R232). -/
def State.takePulses (s : State) : State :=
  if s.flags.hwTimerMode then { s with pulseCpu := false, pulseTimer := false } else s

/-- The end of a pump (R229): no timer tick if the step stopped the block. -/
def State.afterCpu (s : State) (timerDue : Bool) : State :=
  if s.flags.initialized && timerDue then s.timerTick else s

/-- `pump(cpu_elapsed, timer_elapsed)` (R229, R242): the instruction cadence first, then the timer cadence. -/
def pump (cpuElapsed timerElapsed : Bool) (s : State) : Result :=
  if s.flags.initialized then
    match (if (s.due cpuElapsed timerElapsed).1 then instrStep s.takePulses else .next s.takePulses) with
    | .next t => .next (t.afterCpu (s.due cpuElapsed timerElapsed).2)
    | .fault f => .fault f
    | .refused r => .refused r
  else .next s

/-- What pump returned, read from the state it left (R229): true iff INITIALIZED (log entry 16). -/
def pumpReturned (after : State) : Bool := after.flags.initialized

end Sys2Proof.Machine
end

