-- ==== Sys2Proof/Machine/Interface.lean ====
section
/-! DEFINITION. The interfaces of the block (60_exceptions.md R240 to R248): what the outside does, and what it reads. -/

namespace Sys2Proof.Machine

/-- `set_key(k, pressed)` (R244). -/
def State.setKey (s : State) (k : Fin 16) (pressed : Bool) : State := { s with keys := s.keys.set k pressed }

/-- `clear_dirty(r, c)` (R245). -/
def State.clearDirty (s : State) (r : Fin 32) (c : Fin 8) : State := s.setDirty (unmarkCell s.dirty r c)

/-- `reset_draw()` (R245). -/
def State.resetDraw (s : State) : State := s.setFlags { s.flags with gpuDrawReady := false }

/-- `cpu_pulse()` (R248). -/
def State.cpuPulse (s : State) : State := { s with pulseCpu := true }

/-- `timer_pulse()` (R248). -/
def State.timerPulse (s : State) : State := { s with pulseTimer := true }

/-- `frame_ready` (R245). -/
def State.frameReady (s : State) : Bool := s.flags.gpuDrawReady

/-- `draw_pending()` (R246). -/
def State.drawPending (s : State) : Bool := s.flags.cpuDrawPending

/-- `sound_active` (R247). -/
def State.soundOn (s : State) : Bool := s.flags.soundActive

/-- The renderer's read of framebuffer byte `n` (R33, R245). -/
def State.renderByte (s : State) (n : Fin 256) : Byte := fbByte s.fb n

/-- The renderer's read of `Dirty(r, c)` (R245). -/
def State.renderDirty (s : State) (r : Fin 32) (c : Fin 8) : Bool := dirtyCell s.dirty r c

/-- One operation of the outside (R240 to R248). -/
def applyInput (e : Input) (s : State) : Result :=
  match e with
  | .load bytes => .next (s.load bytes).2
  | .start hw => .next (s.start hw).2
  | .pump c t => pump c t s
  | .stop => .next s.stop.2
  | .setKey k b => .next (s.setKey k b)
  | .clearDirty r c => .next (s.clearDirty r c)
  | .resetDraw => .next s.resetDraw
  | .cpuPulse => .next s.cpuPulse
  | .timerPulse => .next s.timerPulse

/-- The outside's next operation. With nothing queued the host's loop pumps with the instruction interval elapsed and
the timer interval not, as spec/95_test_vectors.md section 3 runs its programs. DESIGN CHOICE, log entry 4; unsafe. -/
def State.nextInput (s : State) : Input × State :=
  match s.inputs with
  | [] => (.pump true false, s)
  | e :: rest => (e, { s with inputs := rest })

end Sys2Proof.Machine
end

