-- ==== Sys2Proof/Machine/Step.lean ====
section
/-! DEFINITION. One step of the block: the outside's next operation. -/

namespace Sys2Proof.Machine

/-- The outside's next operation is performed on the block (R240 to R250; log entry 4). -/
def step (s : State) : Host.Outcome State Fault Refusal := applyInput s.nextInput.1 s.nextInput.2

/-- The state with an opcode stored at PC and the scheduler set so that the very next step runs it: the flags as load
and start(false) leave them, nothing queued (log entry 11). Under OOB_POLICY = `fault` with PC above 0xFFE the fetch
itself still raises MemFault (R53). -/
def State.withFetchWord (s : State) (nbits w : Nat) : State :=
  (s.placeWord s.pc.toNat (BitVec.ofNat 16 (w % 2 ^ nbits))).armed

end Sys2Proof.Machine
end

