-- ==== Sys2Proof/Safety.lean ====
section
/-! DEFINITION. What claims call a legal state and a safe run. -/

namespace Sys2Proof.Machine

/-- The lifecycle states of R267, names of flag combinations. -/
inductive Phase where
  | uninitialized
  | loaded
  | running
  deriving DecidableEq, Repr

/-- The lifecycle state the bits 0 to 2 name (R267); no other combination is reachable. -/
def LifecycleFlags.phase (f : LifecycleFlags) : Option Phase :=
  match f.romLoaded, f.running, f.initialized with
  | false, false, false => some .uninitialized
  | true, false, false => some .loaded
  | true, true, true => some .running
  | _, _, _ => none

/-- A reachable flag register: a lifecycle state of R267, PAUSED never set (R34, R35), and outside Running the draw,
sound and timer-mode bits 0 (R34). -/
def LifecycleFlags.legal (f : LifecycleFlags) : Bool :=
  f.phase.isSome && !f.paused &&
    (f.running || (!f.cpuDrawPending && !f.gpuDrawReady && !f.soundActive && !f.hwTimerMode))

/-- The invariant of the block: memory in canonical form, the flags legal. -/
abbrev State.Inv (s : State) : Prop := s.mem.wf ∧ s.flags.legal = true

/-- A step's outcome is safe when it is a next state: no fault, no refusal. -/
def isNext (o : Result) : Bool :=
  match o with
  | .next _ => true
  | .fault _ => false
  | .refused _ => false

/-- A state from which no access can raise MemFault (R52). -/
abbrev State.wraps (s : State) : Prop := s.cfg.oobPolicy = .wrap

/-- The sprite bit that DXYN puts on pixel (px, py) in closed form (R103, R104, R108): the sprite's column and row are the
distances from x0 and y0, each modulo the screen. -/
def State.spriteBit (s : State) (x y : Reg) (n : Nat) (px : Fin 64) (py : Fin 32) : Bool :=
  let dx := (px.val + 64 - s.v[x].toNat % 64) % 64
  let dy := (py.val + 32 - s.v[y].toNat % 32) % 32
  decide (dx < 8) && decide (dy < n) && (s.mem.read ((s.i.toNat + dy) % 4096)).getLsbD (7 - dx)

end Sys2Proof.Machine
end

