-- ==== Sys2Proof/Certificates/Slice0/Obligations.lean ====
section
/-! DEFINITION. The statements for the provers. Each names the rules of spec/ it formalises; where a clause rests on a
decision the spec marks as its own (D<n>) or on the model's own choice (log entry <n>), the docstring says so. -/

open Sys2Proof Sys2Proof.Machine

/-! ### Encoding and decoding -/

/-- Decoding the word of a well-formed instruction gives the instruction back, at every operand (R70, R71, R74 to R82). -/
def Obligations.EncodeThenDecodeIsIdentity : Prop :=
  ∀ i : Instr, i.wellFormed = true → decode (encode i) = .ok i

/-- Every word that decodes is the word of the instruction it decodes to, which is well formed (R74, R83). -/
def Obligations.DecodedWordReencodes : Prop :=
  ∀ (op : Word) (i : Instr), decode op = .ok i → i.wellFormed = true ∧ encode i = op

/-- R74: the decoded row covers the word and is the one of least priority number that does; UNKNOWN iff none covers it. -/
def Obligations.DecodeFollowsTable : Prop :=
  ∀ op : Word,
    match decode op with
    | .ok i =>
      i.row ∈ opcodeTable ∧ i.row.covers op = true ∧
        ∀ r ∈ opcodeTable, r.covers op = true → r ≠ i.row → i.row.priority < r.priority
    | .error _ => ∀ r ∈ opcodeTable, r.covers op = false

/-- R84: the unknown words are exactly the listed ones (D18 for the checked nibbles), and each is a no-op with PC + 2. -/
def Obligations.UnknownWordsAreNoOps : Prop :=
  (∀ op : Word, (∃ e, decode op = .error e) ↔
    ((op >>> 12 = 0x5 ∨ op >>> 12 = 0x9) ∧ op &&& 0xF ≠ 0) ∨
    (op >>> 12 = 0x8 ∧ op &&& 0xF ∈ [0x8#16, 0x9#16, 0xA#16, 0xB#16, 0xC#16, 0xD#16, 0xF#16]) ∨
    (op >>> 12 = 0xE ∧ op &&& 0xFF ∉ [0x9E#16, 0xA1#16]) ∨
    (op >>> 12 = 0xF ∧ op &&& 0xFF ∉
      [0x07#16, 0x0A#16, 0x15#16, 0x18#16, 0x1E#16, 0x29#16, 0x30#16, 0x33#16, 0x55#16, 0x65#16])) ∧
  ∀ s : State, s.memFaultAt s.pc.toNat 2 = none → (∃ e, decode (s.fetch16 s.pc.toNat) = .error e) →
    instrStep s = .next { s with pc := s.pc + 2 }

/-- Words written out from the encodings of 30_encoding.md, one of each major family (R76 to R81). -/
def Obligations.SampleWordsDecode : Prop :=
  decode 0x00E0 = .ok .cls ∧ decode 0x2345 = .ok (.call 0x345) ∧ decode 0x3A10 = .ok (.seImm 0xA 0x10) ∧
  decode 0x8BC5 = .ok (.sub 0xB 0xC) ∧ decode 0xD125 = .ok (.drw 1 2 5) ∧ decode 0xE59E = .ok (.skp 5) ∧
  decode 0xF265 = .ok (.ldVFromMem 2)

/-- R54, R72: the fetch is big-endian, each address reduced modulo 4096 (D1). -/
def Obligations.FetchIsBigEndian : Prop :=
  ∀ (s : State) (a : Nat),
    (s.fetch16 a).toNat = 256 * (s.mem.read (a % 4096)).toNat + (s.mem.read ((a + 1) % 4096)).toNat

/-! ### Steps -/

/-- R73: a step executes the instruction the fetched word decodes to; an unknown word only advances PC. -/
def Obligations.InstructionStepRunsDecoded : Prop :=
  ∀ s : State, s.memFaultAt s.pc.toNat 2 = none →
    (∀ i, decode (s.fetch16 s.pc.toNat) = .ok i → instrStep s = exec i s) ∧
    (∀ e, decode (s.fetch16 s.pc.toNat) = .error e → instrStep s = .next { s with pc := s.pc + 2 })

/-- When the word at PC decodes to an instruction, a step of the block in polled mode is its execution: with nothing
queued (the model's choice, log entry 4) or with pump(true, false) next; with pump(true, true) next the timer tick
follows unless the instruction stopped the block (R229, D23). -/
def Obligations.BlockStepRunsDecoded : Prop :=
  ∀ (s : State) (i : Instr), s.flags.initialized = true → s.flags.hwTimerMode = false →
    s.memFaultAt s.pc.toNat 2 = none → decode (s.fetch16 s.pc.toNat) = .ok i →
    (s.inputs = [] → step s = exec i s) ∧
    (∀ rest, s.inputs = .pump true false :: rest → step s = exec i { s with inputs := rest }) ∧
    (∀ rest t, s.inputs = .pump true true :: rest → exec i { s with inputs := rest } = .next t →
      step s = .next (if t.flags.initialized then t.timerTick else t))

/-- R229: pump does nothing outside INITIALIZED; otherwise the instruction cadence, fired by the polled input or the
pulse flag, then the timer cadence unless the step stopped the block (D21, D23, D43). -/
def Obligations.PumpFollowsScheduler : Prop :=
  ∀ (s : State) (c d : Bool),
    let tail (o : Result) (due : Bool) : Result :=
      match o with
      | .next t => .next (if t.flags.initialized = true ∧ due = true then t.timerTick else t)
      | .fault f => .fault f
      | .refused r => .refused r
    let cleared : State := { s with pulseCpu := false, pulseTimer := false }
    (s.flags.initialized = false → pump c d s = .next s) ∧
    (s.flags.initialized = true → s.flags.hwTimerMode = false →
      pump c d s = tail (if c then instrStep s else .next s) d) ∧
    (s.flags.initialized = true → s.flags.hwTimerMode = true →
      pump c d s = tail (if s.pulseCpu then instrStep cleared else .next cleared) s.pulseTimer)

/-- R231, R232: in hardware-timer mode a pump ignores its polled inputs and leaves both pulse flags clear; in polled mode
it leaves them as they are, unless the block was stopped (R266); pulses of one source merge (D24). -/
def Obligations.PulsesMergeAndAreTaken : Prop :=
  ∀ (s t : State) (c d : Bool), s.flags.initialized = true → pump c d s = .next t →
    (s.flags.hwTimerMode = true →
      (∀ c' d', pump c' d' s = .next t) ∧ t.pulseCpu = false ∧ t.pulseTimer = false) ∧
    (s.flags.hwTimerMode = false → t.flags.initialized = true →
      t.pulseCpu = s.pulseCpu ∧ t.pulseTimer = s.pulseTimer) ∧
    s.cpuPulse.cpuPulse = s.cpuPulse ∧ s.timerPulse.timerPulse = s.timerPulse

/-- R53 (D1): under OOB_POLICY = fault an access above 0xFFF raises MemFault at the first such address (log entry 9). -/
def Obligations.AccessAboveMemoryFaults : Prop :=
  ∀ s : State, s.cfg.oobPolicy = .fault →
    (0xFFF < s.pc.toNat + 1 → instrStep s = .fault (.memFault (max s.pc.toNat 0x1000))) ∧
    (∀ x y (n : BitVec 4), 0 < n.toNat → 0xFFF < s.i.toNat + (n.toNat - 1) →
      exec (.drw x y n) s = .fault (.memFault (max s.i.toNat 0x1000))) ∧
    (∀ x, 0xFFF < s.i.toNat + 2 → exec (.ldB x) s = .fault (.memFault (max s.i.toNat 0x1000))) ∧
    (∀ x : Reg, 0xFFF < s.i.toNat + x.val →
      exec (.ldMemFromV x) s = .fault (.memFault (max s.i.toNat 0x1000)) ∧
      exec (.ldVFromMem x) s = .fault (.memFault (max s.i.toNat 0x1000)))

/-- R220: in the default OOB_POLICY no instruction, operand, memory content or outside operation stops the core. -/
def Obligations.NothingStopsUnderWrap : Prop :=
  ∀ s : State, s.cfg.oobPolicy = .wrap →
    (∀ i, ∃ t, exec i s = .next t) ∧ (∃ t, instrStep s = .next t) ∧ (∃ t, step s = .next t)

/-! ### System and control transfer -/

/-- R210 (D19), R211 with R266 (D26, D34): SYS only advances PC; EXIT advances PC, clears all eight flags and both pulse
flags, and keeps everything else. -/
def Obligations.SystemInstructions : Prop :=
  ∀ (s : State) (nnn : BitVec 12),
    exec (.sys nnn) s = .next { s with pc := s.pc + 2 } ∧
    exec .exit s = .next { s with
      pc := s.pc + 2
      flags := ⟨false, false, false, false, false, false, false, false⟩
      pulseCpu := false
      pulseTimer := false }

/-- R120 (D12 for the empty stack): RET pops into PC and keeps the slot; with SP = 0 it only advances PC. -/
def Obligations.ReturnPops : Prop :=
  ∀ s : State,
    (∀ k : Fin 16, s.sp = k.succ → exec .ret s = .next { s with sp := k.castSucc, pc := s.stack[k] }) ∧
    (s.sp = 0 → exec .ret s = .next { s with pc := s.pc + 2 })

/-- R122: CALL pushes pc + 2 and jumps; with SP = 16 the whole call is dropped. -/
def Obligations.CallPushes : Prop :=
  ∀ (s : State) (nnn : BitVec 12),
    (∀ k : Fin 16, s.sp = k.castSucc →
      exec (.call nnn) s = .next { s with stack := s.stack.set k (s.pc + 2), sp := k.succ, pc := nnn.setWidth 16 }) ∧
    (s.sp = 16 → exec (.call nnn) s = .next { s with pc := s.pc + 2 })

/-- R129: a call, then, from any state with the SP and the pushed slot as the call left them, a return: PC is the call's
pc + 2 and SP is as before the call. -/
def Obligations.CallThenReturn : Prop :=
  ∀ (s t u : State) (nnn : BitVec 12) (k : Fin 16), s.sp = k.castSucc → exec (.call nnn) s = .next t →
    u.sp = t.sp → u.stack[k] = t.stack[k] → ∃ w, exec .ret u = .next w ∧ w.pc = s.pc + 2 ∧ w.sp = s.sp

/-- R121: JP writes the zero-extended target. -/
def Obligations.JumpSetsPc : Prop :=
  ∀ (s : State) (nnn : BitVec 12), exec (.jp nnn) s = .next { s with pc := nnn.setWidth 16 }

/-- R127 (D2): JP V0 writes `(NNN + V0) mod 2^16`. -/
def Obligations.JumpV0SetsPc : Prop :=
  ∀ (s : State) (nnn : BitVec 12),
    exec (.jpV0 nnn) s = .next { s with pc := BitVec.ofNat 16 ((nnn.toNat + s.v[0].toNat) % 65536) }

/-- R123, R124: the immediate skips. -/
def Obligations.SkipOnImmediate : Prop :=
  ∀ (s : State) (x : Reg) (nn : Byte),
    exec (.seImm x nn) s = .next { s with pc := if s.v[x] = nn then s.pc + 4 else s.pc + 2 } ∧
    exec (.sneImm x nn) s = .next { s with pc := if s.v[x] ≠ nn then s.pc + 4 else s.pc + 2 }

/-- R125, R126: the register skips (the checked low nibble, D18, is the decoder's). -/
def Obligations.SkipOnRegisters : Prop :=
  ∀ (s : State) (x y : Reg),
    exec (.seReg x y) s = .next { s with pc := if s.v[x] = s.v[y] then s.pc + 4 else s.pc + 2 } ∧
    exec (.sneReg x y) s = .next { s with pc := if s.v[x] ≠ s.v[y] then s.pc + 4 else s.pc + 2 }

/-! ### Register loads and arithmetic -/

/-- R140, R141, R142: the loads and the flagless add. -/
def Obligations.LoadsAndAddImmediate : Prop :=
  ∀ (s : State) (x y : Reg) (nn : Byte),
    exec (.ldImm x nn) s = .next { s with v := s.v.set x nn, pc := s.pc + 2 } ∧
    exec (.addImm x nn) s = .next { s with
      v := s.v.set x (BitVec.ofNat 8 ((s.v[x].toNat + nn.toNat) % 256)), pc := s.pc + 2 } ∧
    exec (.ldReg x y) s = .next { s with v := s.v.set x s.v[y], pc := s.pc + 2 }

/-- R143, R144, R145: the bitwise operations, bit by bit; VF is cleared last only when LOGIC_RESETS_VF (D8). -/
def Obligations.LogicIsBitwise : Prop :=
  ∀ (s : State) (x y : Reg),
    let done (r : Byte) : Result :=
      .next { s with v := if s.cfg.logicResetsVf then (s.v.set x r).set 15 0 else s.v.set x r, pc := s.pc + 2 }
    (∃ r, exec (.orReg x y) s = done r ∧ ∀ j, r.getLsbD j = (s.v[x].getLsbD j || s.v[y].getLsbD j)) ∧
    (∃ r, exec (.andReg x y) s = done r ∧ ∀ j, r.getLsbD j = (s.v[x].getLsbD j && s.v[y].getLsbD j)) ∧
    (∃ r, exec (.xorReg x y) s = done r ∧ ∀ j, r.getLsbD j = (s.v[x].getLsbD j ^^ s.v[y].getLsbD j))

/-- R146: the sum modulo 256 into Vx, then the carry into VF. At X = F the flag is what stays, because VF is written last:
the spec's own decision D11, the source orders nothing. -/
def Obligations.AddSetsCarry : Prop :=
  ∀ (s : State) (x y : Reg),
    exec (.addReg x y) s = .next { s with
      v := (s.v.set x (BitVec.ofNat 8 ((s.v[x].toNat + s.v[y].toNat) % 256))).set 15
        (if 255 < s.v[x].toNat + s.v[y].toNat then 1 else 0)
      pc := s.pc + 2 }

/-- R147: Vx - Vy modulo 256 into Vx, then NOT borrow into VF. At X = F the flag is what stays, because VF is written last:
the spec's own decision D11, the source orders nothing. -/
def Obligations.SubSetsNotBorrow : Prop :=
  ∀ (s : State) (x y : Reg),
    exec (.sub x y) s = .next { s with
      v := (s.v.set x (BitVec.ofNat 8 ((s.v[x].toNat + 256 - s.v[y].toNat) % 256))).set 15
        (if s.v[y].toNat ≤ s.v[x].toNat then 1 else 0)
      pc := s.pc + 2 }

/-- R149 (which the spec derives from R147): Vy - Vx modulo 256, then NOT borrow of it, VF last (decision D11). -/
def Obligations.SubnSetsNotBorrow : Prop :=
  ∀ (s : State) (x y : Reg),
    exec (.subn x y) s = .next { s with
      v := (s.v.set x (BitVec.ofNat 8 ((s.v[y].toNat + 256 - s.v[x].toNat) % 256))).set 15
        (if s.v[x].toNat ≤ s.v[y].toNat then 1 else 0)
      pc := s.pc + 2 }

/-- R148, R150 (D7 for the register shifted): halving and doubling modulo 256, the bit shifted out into VF, last (D11). -/
def Obligations.ShiftsSetBitOut : Prop :=
  ∀ (s : State) (x y : Reg),
    let a := if s.cfg.shiftUsesVy then s.v[y].toNat else s.v[x].toNat
    exec (.shr x y) s = .next { s with
      v := (s.v.set x (BitVec.ofNat 8 (a / 2))).set 15 (if a % 2 = 1 then 1 else 0), pc := s.pc + 2 } ∧
    exec (.shl x y) s = .next { s with
      v := (s.v.set x (BitVec.ofNat 8 (2 * a % 256))).set 15 (if 128 ≤ a then 1 else 0), pc := s.pc + 2 }

/-- R151 (D31): Vx is the draw masked by NN, so no bit outside NN is set; the draw is a free value (log entry 3). -/
def Obligations.RandomIsMasked : Prop :=
  ∀ (s : State) (x : Reg) (nn : Byte),
    ∃ r : Byte, exec (.rnd x nn) s = .next { s with v := s.v.set x r, draws := s.draws + 1, pc := s.pc + 2 } ∧
      r = Config.randomByte s.draws &&& nn ∧ ∀ j, r.getLsbD j = true → nn.getLsbD j = true

/-! ### Index register and memory transfer -/

/-- R170: LD I writes the zero-extended address. -/
def Obligations.LoadIndex : Prop :=
  ∀ (s : State) (nnn : BitVec 12), exec (.ldI nnn) s = .next { s with i := nnn.setWidth 16, pc := s.pc + 2 }

/-- R172, R173 (D3, D5, D14): the glyph addresses; LD F never leaves 12 bits. -/
def Obligations.GlyphAddresses : Prop :=
  ∀ (s : State) (x : Reg),
    exec (.ldF x) s = .next { s with i := BitVec.ofNat 16 (0x50 + 5 * s.v[x].toNat), pc := s.pc + 2 } ∧
    0x50 + 5 * s.v[x].toNat ≤ 0x54B ∧
    exec (.ldHf x) s = .next { s with
      i := BitVec.ofNat 16 (((extBase s.cfg).toNat + 10 * s.v[x].toNat) % 65536), pc := s.pc + 2 }

/-- R171 (D10): the exact sum decides VF, then I is the sum modulo 4096. -/
def Obligations.AddIndexMasksAndFlags : Prop :=
  ∀ (s : State) (x : Reg),
    exec (.addI x) s = .next { s with
      v := if 0xFFF < s.i.toNat + s.v[x].toNat then s.v.set 15 1
        else if s.cfg.fx1eClearsVf then s.v.set 15 0 else s.v
      i := BitVec.ofNat 16 ((s.i.toNat + s.v[x].toNat) % 4096)
      pc := s.pc + 2 }

/-- R174: the three decimal digits, hundreds first, at I, I + 1, I + 2 (each modulo 4096, D1), and nothing else. -/
def Obligations.DecimalDigitsStored : Prop :=
  ∀ (s : State) (x : Reg), s.cfg.oobPolicy = .wrap ∨ s.i.toNat + 2 ≤ 0xFFF →
    ∃ m : Memory, exec (.ldB x) s = .next { s with mem := m, pc := s.pc + 2 } ∧
      (m.read (s.i.toNat % 4096)).toNat = s.v[x].toNat / 100 ∧
      (m.read ((s.i.toNat + 1) % 4096)).toNat = s.v[x].toNat / 10 % 10 ∧
      (m.read ((s.i.toNat + 2) % 4096)).toNat = s.v[x].toNat % 10 ∧
      ∀ a, a ≠ s.i.toNat % 4096 → a ≠ (s.i.toNat + 1) % 4096 → a ≠ (s.i.toNat + 2) % 4096 →
        m.read a = s.mem.read a

/-- R175 (D1, D9): V0 .. Vx at I, I + 1, ..., and nothing else; I moves only when LDST_INCREMENTS_I. -/
def Obligations.RegistersStored : Prop :=
  ∀ (s : State) (x : Reg), s.cfg.oobPolicy = .wrap ∨ s.i.toNat + x.val ≤ 0xFFF →
    ∃ m : Memory, exec (.ldMemFromV x) s = .next { s with
        mem := m
        i := if s.cfg.ldstIncrementsI then BitVec.ofNat 16 ((s.i.toNat + x.val + 1) % 65536) else s.i
        pc := s.pc + 2 } ∧
      (∀ k : Reg, k ≤ x → m.read ((s.i.toNat + k.val) % 4096) = s.v[k]) ∧
      ∀ a, (∀ k : Reg, k ≤ x → a ≠ (s.i.toNat + k.val) % 4096) → m.read a = s.mem.read a

/-- R176 (D1, D9): V0 .. Vx from I, I + 1, ..., no other register and no byte of memory changed. -/
def Obligations.RegistersLoaded : Prop :=
  ∀ (s : State) (x : Reg), s.cfg.oobPolicy = .wrap ∨ s.i.toNat + x.val ≤ 0xFFF →
    ∃ w : Vector Byte 16, exec (.ldVFromMem x) s = .next { s with
        v := w
        i := if s.cfg.ldstIncrementsI then BitVec.ofNat 16 ((s.i.toNat + x.val + 1) % 65536) else s.i
        pc := s.pc + 2 } ∧
      ∀ k : Reg, w[k] = if k ≤ x then s.mem.read ((s.i.toNat + k.val) % 4096) else s.v[k]

/-- R65: an opcode stored by FX55 is the one the next fetch there reads, with no fence or delay. -/
def Obligations.StoredWordIsFetched : Prop :=
  ∀ (s t : State) (x k : Reg) (h : k.val + 1 < 16), k < x → exec (.ldMemFromV x) s = .next t →
    t.fetch16 (s.i.toNat + k.val) = wordOfBytes s.v[k] (s.v[k.val + 1]'h)

/-! ### Display -/

/-- R102: CLS darkens every pixel, marks every cell, raises the draw signal, and changes nothing else but PC. -/
def Obligations.ClsClearsScreen : Prop :=
  ∀ s : State, ∃ (fb : Framebuffer) (d : DirtyMatrix),
    exec .cls s = .next { s with
      fb := fb, dirty := d, flags := { s.flags with cpuDrawPending := true }, pc := s.pc + 2 } ∧
    (∀ x y, pixel fb x y = false) ∧ ∀ r c, dirtyCell d r c = true

/-- R103, R104, R105, R107, R108, R109 (D1, D11, D17): every pixel is XORed with its sprite bit, rows and columns wrapped;
VF is 1 iff a lit pixel was erased; the draw signal is raised; nothing else but `dirty` and PC changes. -/
def Obligations.DrawXorsSprite : Prop :=
  ∀ (s : State) (x y : Reg) (n : BitVec 4),
    s.cfg.oobPolicy = .wrap ∨ n = 0 ∨ s.i.toNat + (n.toNat - 1) ≤ 0xFFF →
    ∃ (fb : Framebuffer) (d : DirtyMatrix),
      exec (.drw x y n) s = .next { s with
        fb := fb
        dirty := d
        v := s.v.set 15
          (if ∃ px py, s.spriteBit x y n.toNat px py = true ∧ pixel s.fb px py = true then 1 else 0)
        flags := { s.flags with cpuDrawPending := true }
        pc := s.pc + 2 } ∧
      ∀ px py, pixel fb px py = (pixel s.fb px py ^^ s.spriteBit x y n.toNat px py)

/-- R106 (D16): DXYN only sets dirty bits: under `toggled` those of the toggled pixels' cells, under `spanned` the one or
two cells that the eight positions of each sprite row cover. -/
def Obligations.DrawMarksCells : Prop :=
  ∀ (s t : State) (x y : Reg) (n : BitVec 4) (r : Fin 32) (c : Fin 8), exec (.drw x y n) s = .next t →
    (s.cfg.dirtyPolicy = .toggled →
      (dirtyCell t.dirty r c = true ↔ dirtyCell s.dirty r c = true ∨
        ∃ px, px.val / 8 = c.val ∧ s.spriteBit x y n.toNat px r = true)) ∧
    (s.cfg.dirtyPolicy = .spanned →
      (dirtyCell t.dirty r c = true ↔ dirtyCell s.dirty r c = true ∨
        (∃ k < n.toNat, r.val = (s.v[y].toNat % 32 + k) % 32) ∧
          (c.val = s.v[x].toNat % 64 / 8 ∨ c.val = (s.v[x].toNat % 64 + 7) % 64 / 8)))

/-- R110: the same sprite drawn twice restores the framebuffer, and the second VF is 1 iff the first draw lit a pixel. -/
def Obligations.DrawTwiceRestores : Prop :=
  ∀ (s t u : State) (x y : Reg) (n : BitVec 4), exec (.drw x y n) s = .next t → t.v[x] = s.v[x] → t.v[y] = s.v[y] →
    exec (.drw x y n) t = .next u →
    u.fb = s.fb ∧
    u.v[15] = if ∃ px py, pixel s.fb px py = false ∧ pixel t.fb px py = true then 1 else 0

/-- R101: over any run with no clear_dirty of a cell, a pixel of the cell that ends different leaves the cell dirty. -/
def Obligations.ChangedCellsAreDirty : Prop :=
  ∀ (k : Nat) (s t : State) (r : Fin 32) (c : Fin 8), Sys2Proof.core.run k s = .next t →
    (∀ e ∈ s.inputs.take k, e ≠ .clearDirty r c) →
    (∃ px, px.val / 8 = c.val ∧ pixel s.fb px r ≠ pixel t.fb px r) → dirtyCell t.dirty r c = true

/-- R101, R36: a dirty bit goes from 1 to 0 only by the renderer's clear of that cell. -/
def Obligations.OnlyRendererClearsDirty : Prop :=
  ∀ (s t : State) (r : Fin 32) (c : Fin 8), step s = .next t → dirtyCell s.dirty r c = true →
    dirtyCell t.dirty r c = false → s.inputs.head? = some (.clearDirty r c)

/-- R33 (D15): pixel (x, y) is bit `7 - (x mod 8)` of byte `y*8 + x div 8` as the renderer reads it. -/
def Obligations.RendererPacking : Prop :=
  ∀ (s : State) (x : Fin 64) (y : Fin 32) (n : Fin 256), n.val = y.val * 8 + x.val / 8 →
    (s.renderByte n).getLsbD (7 - x.val % 8) = pixel s.fb x y

/-- R237: GPU_DRAW_READY rises only in the timer cadence of a pump, due in an INITIALIZED block, when the state `u` that the
pump's instruction phase leaves holds the draw signal; it falls only by reset_draw, by stop, or by the stop of an EXIT that
the pump's instruction phase executes (D34). That the instruction phase comes first is D23; with nothing queued the
operation is pump(true, false), the model's choice (log entry 4). -/
def Obligations.FrameReadyEdges : Prop :=
  ∀ s t : State, step s = .next t →
    let a := s.nextInput.2
    (s.flags.gpuDrawReady = false → t.flags.gpuDrawReady = true →
      ∃ c d, s.nextInput.1 = .pump c d ∧ a.flags.initialized = true ∧ (a.due c d).2 = true ∧
        ∃ u : State, (if (a.due c d).1 then instrStep a.takePulses else .next a.takePulses) = .next u ∧
          u.flags.initialized = true ∧ u.flags.cpuDrawPending = true ∧ t = u.timerTick) ∧
    (s.flags.gpuDrawReady = true → t.flags.gpuDrawReady = false →
      s.nextInput.1 = .resetDraw ∨ s.nextInput.1 = .stop ∨
        ∃ c d, s.nextInput.1 = .pump c d ∧ a.flags.initialized = true ∧ (a.due c d).1 = true ∧
          decode (a.fetch16 a.pc.toNat) = .ok .exit)

/-! ### Keys and timers -/

/-- R190, R191, R192 (D13): a value above 0x0F names no key, so it is not pressed. -/
def Obligations.SkipOnKey : Prop :=
  ∀ (s : State) (x : Reg),
    let down := ∃ k : Fin 16, k.val = s.v[x].toNat ∧ s.keys[k] = true
    (down → exec (.skp x) s = .next { s with pc := s.pc + 4 } ∧ exec (.sknp x) s = .next { s with pc := s.pc + 2 }) ∧
    (¬ down → exec (.skp x) s = .next { s with pc := s.pc + 2 } ∧ exec (.sknp x) s = .next { s with pc := s.pc + 4 })

/-- R194 (D36, D40): the lowest pressed key goes to Vx and PC advances; with none pressed nothing changes at all. -/
def Obligations.KeyWaitTakesLowest : Prop :=
  ∀ (s : State) (x : Reg),
    (∀ k : Fin 16, s.keys[k] = true → (∀ j : Fin 16, j < k → s.keys[j] = false) →
      exec (.ldK x) s = .next { s with v := s.v.set x (BitVec.ofNat 8 k.val), pc := s.pc + 2 }) ∧
    ((∀ k : Fin 16, s.keys[k] = false) → exec (.ldK x) s = .next s)

/-- R193, R195, R196 (D29): the timers' read and writes; SOUND_ACTIVE is not written by FX18. -/
def Obligations.TimerInstructions : Prop :=
  ∀ (s : State) (x : Reg),
    exec (.ldVDt x) s = .next { s with v := s.v.set x s.dt, pc := s.pc + 2 } ∧
    exec (.ldDtV x) s = .next { s with dt := s.v[x], pc := s.pc + 2 } ∧
    exec (.ldStV x) s = .next { s with st := s.v[x], pc := s.pc + 2 }

/-- R234 (D28, D30): both timers fall by one unless 0, the draw signal is promoted, SOUND_ACTIVE is whether ST is still
nonzero; nothing else changes. -/
def Obligations.TimerTickEffect : Prop :=
  ∀ s : State, s.timerTick = { s with
    dt := BitVec.ofNat 8 (s.dt.toNat - 1)
    st := BitVec.ofNat 8 (s.st.toNat - 1)
    flags := { s.flags with
      gpuDrawReady := s.flags.gpuDrawReady || s.flags.cpuDrawPending
      cpuDrawPending := false
      soundActive := decide (1 < s.st.toNat) } }

/-- R235: after FX18 with N, SOUND_ACTIVE is true for ticks 1 to N - 1 and false from tick N on; after FX15 with N, FX07
reads N - k after k ticks and 0 after any later one. -/
def Obligations.TimerLaws : Prop :=
  ∀ (s t : State) (x : Reg) (k : Nat),
    (exec (.ldStV x) s = .next t → 0 < k →
      (State.timerTick^[k] t).flags.soundActive = decide (k < s.v[x].toNat)) ∧
    (exec (.ldDtV x) s = .next t → ∀ y : Reg,
      ∃ u, exec (.ldVDt y) (State.timerTick^[k] t) = .next u ∧ u.v[y].toNat = s.v[x].toNat - k)

/-! ### Lifecycle and interfaces -/

/-- R43, R260 (D32): the block at construction. -/
def Obligations.ResetIsConstruction : Prop :=
  (∀ a, State.reset.mem.read a = 0) ∧ (∀ k : Reg, State.reset.v[k] = 0) ∧ State.reset.i = 0 ∧ State.reset.pc = 0 ∧
  (∀ k : Fin 16, State.reset.stack[k] = 0) ∧ State.reset.sp = 0 ∧ State.reset.dt = 0 ∧ State.reset.st = 0 ∧
  (∀ x y, pixel State.reset.fb x y = false) ∧ (∀ r c, dirtyCell State.reset.dirty r c = true) ∧
  State.reset.flags.toByte = 0x00 ∧ (∀ k : Fin 16, State.reset.keys[k] = false) ∧
  State.reset.pulseCpu = false ∧ State.reset.pulseTimer = false

/-- R240: load succeeds iff the ROM has at most 3584 bytes, and a failed load changes nothing. -/
def Obligations.LoadRejectsLongRom : Prop :=
  ∀ (s : State) (bytes : List Byte),
    ((s.load bytes).1 = true ↔ bytes.length ≤ 3584) ∧ (3584 < bytes.length → s.load bytes = (false, s))

/-- R58, R261, R263 (D4, D6, D27): the memory map a load leaves, for every extended-font base and every image no longer than
memory, the empty one of the default configuration included. An image that passes 0xFFF goes on at 0x000 (log entry 15 for
OOB_POLICY = fault). Every other field keeps its value but ROM_LOADED. -/
def Obligations.LoadLeavesMemoryMap : Prop :=
  ∀ (s : State) (bytes : List Byte), bytes.length ≤ 3584 → s.cfg.extFontImage.length ≤ 4096 →
    let offset (a : Nat) : Nat := (a + 4096 - (extBase s.cfg).toNat % 4096) % 4096
    ∃ m : Memory, s.load bytes = (true, { s with mem := m, flags := { s.flags with romLoaded := true } }) ∧ m.wf ∧
      ∀ a, m.read a =
        if 0x200 ≤ a ∧ a < 0x200 + bytes.length then bytes.getD (a - 0x200) 0
        else if a < 4096 ∧ offset a < s.cfg.extFontImage.length then s.cfg.extFontImage.getD (offset a) 0
        else if 0x50 ≤ a ∧ a < 0xA0 then s.cfg.fontImage.toList.getD (a - 0x50) 0
        else 0

/-- R241, R264, R265 (D25, D38, D45), R243, R266 (D26): start fails, changing nothing, without a ROM or while running;
otherwise it initializes the registers, keeps memory and keys, and sets the flags; stop fails, changing nothing, unless
running; otherwise it clears the flags and the pulses only. -/
def Obligations.StartAndStop : Prop :=
  ∀ (s : State) (hw : Bool),
    (s.flags.romLoaded = false ∨ s.flags.running = true → s.start hw = (false, s)) ∧
    (s.flags.romLoaded = true → s.flags.running = false →
      ∃ (fb : Framebuffer) (d : DirtyMatrix), s.start hw = (true, { s with
          pc := 0x200, i := 0, sp := 0, dt := 0, st := 0
          stack := Vector.replicate 16 0
          v := Vector.replicate 16 0
          fb := fb, dirty := d
          pulseCpu := false, pulseTimer := false
          flags := { s.flags with hwTimerMode := hw, initialized := true, running := true } }) ∧
        (∀ x y, pixel fb x y = false) ∧ ∀ r c, dirtyCell d r c = true) ∧
    (s.flags.running = false → s.stop = (false, s)) ∧
    (s.flags.running = true → s.stop = (true, { s with
      flags := ⟨false, false, false, false, false, false, false, false⟩, pulseCpu := false, pulseTimer := false }))

/-- R244: set_key writes one key, and no step of the block writes a key otherwise. -/
def Obligations.KeysChangeOnlyBySetKey : Prop :=
  (∀ (s : State) (k j : Fin 16) (b : Bool), (s.setKey k b).keys[j] = if j = k then b else s.keys[j]) ∧
  (∀ (s : State) (k : Fin 16) (b : Bool), s.setKey k b = { s with keys := (s.setKey k b).keys }) ∧
  ∀ s t : State, step s = .next t → t.keys ≠ s.keys → ∃ k b, s.inputs.head? = some (.setKey k b)

/-- R245, R248 (D38): what the renderer's and the pulse sources' operations write, and nothing else. -/
def Obligations.RendererAndPulseOperations : Prop :=
  ∀ s : State,
    (∀ (r r' : Fin 32) (c c' : Fin 8), s.clearDirty r c = { s with dirty := (s.clearDirty r c).dirty } ∧
      dirtyCell (s.clearDirty r c).dirty r' c' = (dirtyCell s.dirty r' c' && !decide (r' = r ∧ c' = c))) ∧
    s.resetDraw = { s with flags := { s.flags with gpuDrawReady := false } } ∧
    s.cpuPulse = { s with pulseCpu := true } ∧ s.timerPulse = { s with pulseTimer := true }

/-- R267 with R34 and R35, and the model's canonical memory: every step of the block keeps the invariant. -/
def Obligations.StepKeepsInvariant : Prop :=
  ∀ s t : State, s.Inv → step s = .next t → t.Inv

/-- The invariant holds at reset (R43, R267). -/
def Obligations.ResetMeetsInvariant : Prop := State.reset.Inv

/-- R268: load, start(false) and the first pump from any state that is not running execute the two ROM bytes at 0x200,
with every register 0 (the queue of inputs is the model's, log entry 4). -/
def Obligations.BootRunsRomFirstWord : Prop :=
  ∀ (s : State) (bytes : List Byte) (b0 b1 : Byte) (rest : List Byte) (i : Instr) (more : List Input),
    s.flags.running = false → s.cfg.oobPolicy = .wrap → bytes = b0 :: b1 :: rest → bytes.length ≤ 3584 →
    decode (wordOfBytes b0 b1) = .ok i → s.inputs = .load bytes :: .start false :: .pump true false :: more →
    ∃ t : State, Sys2Proof.core.run 2 s = .next t ∧ t.pc = 0x200 ∧ t.sp = 0 ∧ t.i = 0 ∧ (∀ k : Reg, t.v[k] = 0) ∧
      step t = exec i { t with inputs := more }

/-! ### Whole-machine rules -/

/-- R22: an instruction changes only the V registers the table gives it: its destination, VF where it is a flag writer,
V0 .. Vx for FX65. -/
def Obligations.RegisterWritersAreListed : Prop :=
  ∀ (i : Instr) (s t : State) (k : Reg), exec i s = .next t → t.v[k] ≠ s.v[k] →
    match i with
    | .ldImm x _ | .addImm x _ | .ldReg x _ | .rnd x _ | .ldVDt x | .ldK x => k = x
    | .orReg x _ | .andReg x _ | .xorReg x _ => k = x ∨ (k = 15 ∧ s.cfg.logicResetsVf = true)
    | .addReg x _ | .sub x _ | .subn x _ | .shr x _ | .shl x _ => k = x ∨ k = 15
    | .drw _ _ _ => k = 15
    | .addI x => k = 15 ∧ (0xFFF < s.i.toNat + s.v[x].toNat ∨ s.cfg.fx1eClearsVf = true)
    | .ldVFromMem x => k ≤ x
    | _ => False

/-- R24: every executed instruction leaves PC in one of four ways: pc + 2 by default, pc + 4 only for the six skips, an
explicit target only for JP, CALL, RET and JP V0, unchanged only for FX0A. -/
def Obligations.PcMovesInFourWays : Prop :=
  ∀ (i : Instr) (s t : State), exec i s = .next t →
    match i with
    | .seImm x nn => t.pc = if s.v[x] = nn then s.pc + 4 else s.pc + 2
    | .sneImm x nn => t.pc = if s.v[x] = nn then s.pc + 2 else s.pc + 4
    | .seReg x y => t.pc = if s.v[x] = s.v[y] then s.pc + 4 else s.pc + 2
    | .sneReg x y => t.pc = if s.v[x] = s.v[y] then s.pc + 2 else s.pc + 4
    | .skp x => t.pc = if s.pressed s.v[x] then s.pc + 4 else s.pc + 2
    | .sknp x => t.pc = if s.pressed s.v[x] then s.pc + 2 else s.pc + 4
    | .jp nnn => t.pc = nnn.setWidth 16
    | .jpV0 nnn => t.pc = nnn.setWidth 16 + s.v[0].setWidth 16
    | .call nnn => if s.sp = 16 then t.pc = s.pc + 2 else t.pc = nnn.setWidth 16
    | .ret => if s.sp = 0 then t.pc = s.pc + 2 else ∃ k : Fin 16, s.sp = k.succ ∧ t.pc = s.stack[k]
    | .ldK _ => if s.keys = Vector.replicate 16 false then t.pc = s.pc else t.pc = s.pc + 2
    | _ => t.pc = s.pc + 2

/-- R27 to R37, R51, R34: what only some instructions write: memory, the stack, I, the timers, the screen, the flags; and
what none writes: keys, parameters, the queue of inputs, and, EXIT apart, the pulse flags and every flag but the draw
signal, which only CLS, DRW and EXIT change. -/
def Obligations.OtherStateWritersAreListed : Prop :=
  ∀ (i : Instr) (s t : State), exec i s = .next t →
    (t.mem ≠ s.mem → ∃ x, i = .ldB x ∨ i = .ldMemFromV x) ∧
    (t.stack ≠ s.stack → ∃ nnn, i = .call nnn) ∧
    (t.sp ≠ s.sp → i = .ret ∨ ∃ nnn, i = .call nnn) ∧
    (t.i ≠ s.i → (∃ nnn, i = .ldI nnn) ∨ (∃ x, i = .addI x ∨ i = .ldF x ∨ i = .ldHf x) ∨
      (s.cfg.ldstIncrementsI = true ∧ ∃ x, i = .ldMemFromV x ∨ i = .ldVFromMem x)) ∧
    (t.dt ≠ s.dt → ∃ x, i = .ldDtV x) ∧
    (t.st ≠ s.st → ∃ x, i = .ldStV x) ∧
    (t.fb ≠ s.fb ∨ t.dirty ≠ s.dirty → i = .cls ∨ ∃ x y n, i = .drw x y n) ∧
    (t.flags.cpuDrawPending ≠ s.flags.cpuDrawPending → i = .cls ∨ i = .exit ∨ ∃ x y n, i = .drw x y n) ∧
    (t.draws ≠ s.draws → ∃ x nn, i = .rnd x nn) ∧
    t.keys = s.keys ∧ t.cfg = s.cfg ∧ t.inputs = s.inputs ∧
    (i ≠ .exit → t.pulseCpu = s.pulseCpu ∧ t.pulseTimer = s.pulseTimer ∧
      t.flags = { s.flags with cpuDrawPending := t.flags.cpuDrawPending })

/-- The parameters never change (the model's field, log entry 1), PAUSED is never set (R35, D21), and HW_TIMER_MODE
changes only by start or by a stop (R232). -/
def Obligations.FixedForTheRun : Prop :=
  ∀ s t : State, step s = .next t →
    t.cfg = s.cfg ∧ (t.flags.paused = true → s.flags.paused = true) ∧
    (t.flags.hwTimerMode ≠ s.flags.hwTimerMode →
      (∃ hw, s.inputs.head? = some (.start hw)) ∨ t.flags = LifecycleFlags.clear)
end

