-- ==== Sys2Proof/Laws/State.lean ====
section
/-! SUPPORT. One lemma per field per update of State, true by unfolding once, so that no later proof unfolds a record
update. -/

namespace Sys2Proof.Machine

section
variable (s : State)

/-! ### setV -/

@[simp] theorem State.setV_mem (x : Reg) (b : Byte) : (s.setV x b).mem = s.mem := rfl
@[simp] theorem State.setV_v (x : Reg) (b : Byte) : (s.setV x b).v = s.v.set x b := rfl
@[simp] theorem State.setV_i (x : Reg) (b : Byte) : (s.setV x b).i = s.i := rfl
@[simp] theorem State.setV_pc (x : Reg) (b : Byte) : (s.setV x b).pc = s.pc := rfl
@[simp] theorem State.setV_stack (x : Reg) (b : Byte) : (s.setV x b).stack = s.stack := rfl
@[simp] theorem State.setV_sp (x : Reg) (b : Byte) : (s.setV x b).sp = s.sp := rfl
@[simp] theorem State.setV_dt (x : Reg) (b : Byte) : (s.setV x b).dt = s.dt := rfl
@[simp] theorem State.setV_st (x : Reg) (b : Byte) : (s.setV x b).st = s.st := rfl
@[simp] theorem State.setV_fb (x : Reg) (b : Byte) : (s.setV x b).fb = s.fb := rfl
@[simp] theorem State.setV_dirty (x : Reg) (b : Byte) : (s.setV x b).dirty = s.dirty := rfl
@[simp] theorem State.setV_flags (x : Reg) (b : Byte) : (s.setV x b).flags = s.flags := rfl
@[simp] theorem State.setV_keys (x : Reg) (b : Byte) : (s.setV x b).keys = s.keys := rfl
@[simp] theorem State.setV_pulseCpu (x : Reg) (b : Byte) : (s.setV x b).pulseCpu = s.pulseCpu := rfl
@[simp] theorem State.setV_pulseTimer (x : Reg) (b : Byte) : (s.setV x b).pulseTimer = s.pulseTimer := rfl
@[simp] theorem State.setV_cfg (x : Reg) (b : Byte) : (s.setV x b).cfg = s.cfg := rfl
@[simp] theorem State.setV_draws (x : Reg) (b : Byte) : (s.setV x b).draws = s.draws := rfl
@[simp] theorem State.setV_inputs (x : Reg) (b : Byte) : (s.setV x b).inputs = s.inputs := rfl

/-! ### setRegs -/

@[simp] theorem State.setRegs_mem (w : Vector Byte 16) : (s.setRegs w).mem = s.mem := rfl
@[simp] theorem State.setRegs_v (w : Vector Byte 16) : (s.setRegs w).v = w := rfl
@[simp] theorem State.setRegs_i (w : Vector Byte 16) : (s.setRegs w).i = s.i := rfl
@[simp] theorem State.setRegs_pc (w : Vector Byte 16) : (s.setRegs w).pc = s.pc := rfl
@[simp] theorem State.setRegs_stack (w : Vector Byte 16) : (s.setRegs w).stack = s.stack := rfl
@[simp] theorem State.setRegs_sp (w : Vector Byte 16) : (s.setRegs w).sp = s.sp := rfl
@[simp] theorem State.setRegs_dt (w : Vector Byte 16) : (s.setRegs w).dt = s.dt := rfl
@[simp] theorem State.setRegs_st (w : Vector Byte 16) : (s.setRegs w).st = s.st := rfl
@[simp] theorem State.setRegs_fb (w : Vector Byte 16) : (s.setRegs w).fb = s.fb := rfl
@[simp] theorem State.setRegs_dirty (w : Vector Byte 16) : (s.setRegs w).dirty = s.dirty := rfl
@[simp] theorem State.setRegs_flags (w : Vector Byte 16) : (s.setRegs w).flags = s.flags := rfl
@[simp] theorem State.setRegs_keys (w : Vector Byte 16) : (s.setRegs w).keys = s.keys := rfl
@[simp] theorem State.setRegs_pulseCpu (w : Vector Byte 16) : (s.setRegs w).pulseCpu = s.pulseCpu := rfl
@[simp] theorem State.setRegs_pulseTimer (w : Vector Byte 16) : (s.setRegs w).pulseTimer = s.pulseTimer := rfl
@[simp] theorem State.setRegs_cfg (w : Vector Byte 16) : (s.setRegs w).cfg = s.cfg := rfl
@[simp] theorem State.setRegs_draws (w : Vector Byte 16) : (s.setRegs w).draws = s.draws := rfl
@[simp] theorem State.setRegs_inputs (w : Vector Byte 16) : (s.setRegs w).inputs = s.inputs := rfl

/-! ### setPc -/

@[simp] theorem State.setPc_mem (a : Word) : (s.setPc a).mem = s.mem := rfl
@[simp] theorem State.setPc_v (a : Word) : (s.setPc a).v = s.v := rfl
@[simp] theorem State.setPc_i (a : Word) : (s.setPc a).i = s.i := rfl
@[simp] theorem State.setPc_pc (a : Word) : (s.setPc a).pc = a := rfl
@[simp] theorem State.setPc_stack (a : Word) : (s.setPc a).stack = s.stack := rfl
@[simp] theorem State.setPc_sp (a : Word) : (s.setPc a).sp = s.sp := rfl
@[simp] theorem State.setPc_dt (a : Word) : (s.setPc a).dt = s.dt := rfl
@[simp] theorem State.setPc_st (a : Word) : (s.setPc a).st = s.st := rfl
@[simp] theorem State.setPc_fb (a : Word) : (s.setPc a).fb = s.fb := rfl
@[simp] theorem State.setPc_dirty (a : Word) : (s.setPc a).dirty = s.dirty := rfl
@[simp] theorem State.setPc_flags (a : Word) : (s.setPc a).flags = s.flags := rfl
@[simp] theorem State.setPc_keys (a : Word) : (s.setPc a).keys = s.keys := rfl
@[simp] theorem State.setPc_pulseCpu (a : Word) : (s.setPc a).pulseCpu = s.pulseCpu := rfl
@[simp] theorem State.setPc_pulseTimer (a : Word) : (s.setPc a).pulseTimer = s.pulseTimer := rfl
@[simp] theorem State.setPc_cfg (a : Word) : (s.setPc a).cfg = s.cfg := rfl
@[simp] theorem State.setPc_draws (a : Word) : (s.setPc a).draws = s.draws := rfl
@[simp] theorem State.setPc_inputs (a : Word) : (s.setPc a).inputs = s.inputs := rfl

/-! ### setI -/

@[simp] theorem State.setI_mem (a : Word) : (s.setI a).mem = s.mem := rfl
@[simp] theorem State.setI_v (a : Word) : (s.setI a).v = s.v := rfl
@[simp] theorem State.setI_i (a : Word) : (s.setI a).i = a := rfl
@[simp] theorem State.setI_pc (a : Word) : (s.setI a).pc = s.pc := rfl
@[simp] theorem State.setI_stack (a : Word) : (s.setI a).stack = s.stack := rfl
@[simp] theorem State.setI_sp (a : Word) : (s.setI a).sp = s.sp := rfl
@[simp] theorem State.setI_dt (a : Word) : (s.setI a).dt = s.dt := rfl
@[simp] theorem State.setI_st (a : Word) : (s.setI a).st = s.st := rfl
@[simp] theorem State.setI_fb (a : Word) : (s.setI a).fb = s.fb := rfl
@[simp] theorem State.setI_dirty (a : Word) : (s.setI a).dirty = s.dirty := rfl
@[simp] theorem State.setI_flags (a : Word) : (s.setI a).flags = s.flags := rfl
@[simp] theorem State.setI_keys (a : Word) : (s.setI a).keys = s.keys := rfl
@[simp] theorem State.setI_pulseCpu (a : Word) : (s.setI a).pulseCpu = s.pulseCpu := rfl
@[simp] theorem State.setI_pulseTimer (a : Word) : (s.setI a).pulseTimer = s.pulseTimer := rfl
@[simp] theorem State.setI_cfg (a : Word) : (s.setI a).cfg = s.cfg := rfl
@[simp] theorem State.setI_draws (a : Word) : (s.setI a).draws = s.draws := rfl
@[simp] theorem State.setI_inputs (a : Word) : (s.setI a).inputs = s.inputs := rfl

/-! ### setDt -/

@[simp] theorem State.setDt_mem (b : Byte) : (s.setDt b).mem = s.mem := rfl
@[simp] theorem State.setDt_v (b : Byte) : (s.setDt b).v = s.v := rfl
@[simp] theorem State.setDt_i (b : Byte) : (s.setDt b).i = s.i := rfl
@[simp] theorem State.setDt_pc (b : Byte) : (s.setDt b).pc = s.pc := rfl
@[simp] theorem State.setDt_stack (b : Byte) : (s.setDt b).stack = s.stack := rfl
@[simp] theorem State.setDt_sp (b : Byte) : (s.setDt b).sp = s.sp := rfl
@[simp] theorem State.setDt_dt (b : Byte) : (s.setDt b).dt = b := rfl
@[simp] theorem State.setDt_st (b : Byte) : (s.setDt b).st = s.st := rfl
@[simp] theorem State.setDt_fb (b : Byte) : (s.setDt b).fb = s.fb := rfl
@[simp] theorem State.setDt_dirty (b : Byte) : (s.setDt b).dirty = s.dirty := rfl
@[simp] theorem State.setDt_flags (b : Byte) : (s.setDt b).flags = s.flags := rfl
@[simp] theorem State.setDt_keys (b : Byte) : (s.setDt b).keys = s.keys := rfl
@[simp] theorem State.setDt_pulseCpu (b : Byte) : (s.setDt b).pulseCpu = s.pulseCpu := rfl
@[simp] theorem State.setDt_pulseTimer (b : Byte) : (s.setDt b).pulseTimer = s.pulseTimer := rfl
@[simp] theorem State.setDt_cfg (b : Byte) : (s.setDt b).cfg = s.cfg := rfl
@[simp] theorem State.setDt_draws (b : Byte) : (s.setDt b).draws = s.draws := rfl
@[simp] theorem State.setDt_inputs (b : Byte) : (s.setDt b).inputs = s.inputs := rfl

/-! ### setSt -/

@[simp] theorem State.setSt_mem (b : Byte) : (s.setSt b).mem = s.mem := rfl
@[simp] theorem State.setSt_v (b : Byte) : (s.setSt b).v = s.v := rfl
@[simp] theorem State.setSt_i (b : Byte) : (s.setSt b).i = s.i := rfl
@[simp] theorem State.setSt_pc (b : Byte) : (s.setSt b).pc = s.pc := rfl
@[simp] theorem State.setSt_stack (b : Byte) : (s.setSt b).stack = s.stack := rfl
@[simp] theorem State.setSt_sp (b : Byte) : (s.setSt b).sp = s.sp := rfl
@[simp] theorem State.setSt_dt (b : Byte) : (s.setSt b).dt = s.dt := rfl
@[simp] theorem State.setSt_st (b : Byte) : (s.setSt b).st = b := rfl
@[simp] theorem State.setSt_fb (b : Byte) : (s.setSt b).fb = s.fb := rfl
@[simp] theorem State.setSt_dirty (b : Byte) : (s.setSt b).dirty = s.dirty := rfl
@[simp] theorem State.setSt_flags (b : Byte) : (s.setSt b).flags = s.flags := rfl
@[simp] theorem State.setSt_keys (b : Byte) : (s.setSt b).keys = s.keys := rfl
@[simp] theorem State.setSt_pulseCpu (b : Byte) : (s.setSt b).pulseCpu = s.pulseCpu := rfl
@[simp] theorem State.setSt_pulseTimer (b : Byte) : (s.setSt b).pulseTimer = s.pulseTimer := rfl
@[simp] theorem State.setSt_cfg (b : Byte) : (s.setSt b).cfg = s.cfg := rfl
@[simp] theorem State.setSt_draws (b : Byte) : (s.setSt b).draws = s.draws := rfl
@[simp] theorem State.setSt_inputs (b : Byte) : (s.setSt b).inputs = s.inputs := rfl

/-! ### setMem -/

@[simp] theorem State.setMem_mem (m : Memory) : (s.setMem m).mem = m := rfl
@[simp] theorem State.setMem_v (m : Memory) : (s.setMem m).v = s.v := rfl
@[simp] theorem State.setMem_i (m : Memory) : (s.setMem m).i = s.i := rfl
@[simp] theorem State.setMem_pc (m : Memory) : (s.setMem m).pc = s.pc := rfl
@[simp] theorem State.setMem_stack (m : Memory) : (s.setMem m).stack = s.stack := rfl
@[simp] theorem State.setMem_sp (m : Memory) : (s.setMem m).sp = s.sp := rfl
@[simp] theorem State.setMem_dt (m : Memory) : (s.setMem m).dt = s.dt := rfl
@[simp] theorem State.setMem_st (m : Memory) : (s.setMem m).st = s.st := rfl
@[simp] theorem State.setMem_fb (m : Memory) : (s.setMem m).fb = s.fb := rfl
@[simp] theorem State.setMem_dirty (m : Memory) : (s.setMem m).dirty = s.dirty := rfl
@[simp] theorem State.setMem_flags (m : Memory) : (s.setMem m).flags = s.flags := rfl
@[simp] theorem State.setMem_keys (m : Memory) : (s.setMem m).keys = s.keys := rfl
@[simp] theorem State.setMem_pulseCpu (m : Memory) : (s.setMem m).pulseCpu = s.pulseCpu := rfl
@[simp] theorem State.setMem_pulseTimer (m : Memory) : (s.setMem m).pulseTimer = s.pulseTimer := rfl
@[simp] theorem State.setMem_cfg (m : Memory) : (s.setMem m).cfg = s.cfg := rfl
@[simp] theorem State.setMem_draws (m : Memory) : (s.setMem m).draws = s.draws := rfl
@[simp] theorem State.setMem_inputs (m : Memory) : (s.setMem m).inputs = s.inputs := rfl

/-! ### setFb -/

@[simp] theorem State.setFb_mem (p : Framebuffer) : (s.setFb p).mem = s.mem := rfl
@[simp] theorem State.setFb_v (p : Framebuffer) : (s.setFb p).v = s.v := rfl
@[simp] theorem State.setFb_i (p : Framebuffer) : (s.setFb p).i = s.i := rfl
@[simp] theorem State.setFb_pc (p : Framebuffer) : (s.setFb p).pc = s.pc := rfl
@[simp] theorem State.setFb_stack (p : Framebuffer) : (s.setFb p).stack = s.stack := rfl
@[simp] theorem State.setFb_sp (p : Framebuffer) : (s.setFb p).sp = s.sp := rfl
@[simp] theorem State.setFb_dt (p : Framebuffer) : (s.setFb p).dt = s.dt := rfl
@[simp] theorem State.setFb_st (p : Framebuffer) : (s.setFb p).st = s.st := rfl
@[simp] theorem State.setFb_fb (p : Framebuffer) : (s.setFb p).fb = p := rfl
@[simp] theorem State.setFb_dirty (p : Framebuffer) : (s.setFb p).dirty = s.dirty := rfl
@[simp] theorem State.setFb_flags (p : Framebuffer) : (s.setFb p).flags = s.flags := rfl
@[simp] theorem State.setFb_keys (p : Framebuffer) : (s.setFb p).keys = s.keys := rfl
@[simp] theorem State.setFb_pulseCpu (p : Framebuffer) : (s.setFb p).pulseCpu = s.pulseCpu := rfl
@[simp] theorem State.setFb_pulseTimer (p : Framebuffer) : (s.setFb p).pulseTimer = s.pulseTimer := rfl
@[simp] theorem State.setFb_cfg (p : Framebuffer) : (s.setFb p).cfg = s.cfg := rfl
@[simp] theorem State.setFb_draws (p : Framebuffer) : (s.setFb p).draws = s.draws := rfl
@[simp] theorem State.setFb_inputs (p : Framebuffer) : (s.setFb p).inputs = s.inputs := rfl

/-! ### setDirty -/

@[simp] theorem State.setDirty_mem (d : DirtyMatrix) : (s.setDirty d).mem = s.mem := rfl
@[simp] theorem State.setDirty_v (d : DirtyMatrix) : (s.setDirty d).v = s.v := rfl
@[simp] theorem State.setDirty_i (d : DirtyMatrix) : (s.setDirty d).i = s.i := rfl
@[simp] theorem State.setDirty_pc (d : DirtyMatrix) : (s.setDirty d).pc = s.pc := rfl
@[simp] theorem State.setDirty_stack (d : DirtyMatrix) : (s.setDirty d).stack = s.stack := rfl
@[simp] theorem State.setDirty_sp (d : DirtyMatrix) : (s.setDirty d).sp = s.sp := rfl
@[simp] theorem State.setDirty_dt (d : DirtyMatrix) : (s.setDirty d).dt = s.dt := rfl
@[simp] theorem State.setDirty_st (d : DirtyMatrix) : (s.setDirty d).st = s.st := rfl
@[simp] theorem State.setDirty_fb (d : DirtyMatrix) : (s.setDirty d).fb = s.fb := rfl
@[simp] theorem State.setDirty_dirty (d : DirtyMatrix) : (s.setDirty d).dirty = d := rfl
@[simp] theorem State.setDirty_flags (d : DirtyMatrix) : (s.setDirty d).flags = s.flags := rfl
@[simp] theorem State.setDirty_keys (d : DirtyMatrix) : (s.setDirty d).keys = s.keys := rfl
@[simp] theorem State.setDirty_pulseCpu (d : DirtyMatrix) : (s.setDirty d).pulseCpu = s.pulseCpu := rfl
@[simp] theorem State.setDirty_pulseTimer (d : DirtyMatrix) : (s.setDirty d).pulseTimer = s.pulseTimer := rfl
@[simp] theorem State.setDirty_cfg (d : DirtyMatrix) : (s.setDirty d).cfg = s.cfg := rfl
@[simp] theorem State.setDirty_draws (d : DirtyMatrix) : (s.setDirty d).draws = s.draws := rfl
@[simp] theorem State.setDirty_inputs (d : DirtyMatrix) : (s.setDirty d).inputs = s.inputs := rfl

/-! ### setFlags -/

@[simp] theorem State.setFlags_mem (f : LifecycleFlags) : (s.setFlags f).mem = s.mem := rfl
@[simp] theorem State.setFlags_v (f : LifecycleFlags) : (s.setFlags f).v = s.v := rfl
@[simp] theorem State.setFlags_i (f : LifecycleFlags) : (s.setFlags f).i = s.i := rfl
@[simp] theorem State.setFlags_pc (f : LifecycleFlags) : (s.setFlags f).pc = s.pc := rfl
@[simp] theorem State.setFlags_stack (f : LifecycleFlags) : (s.setFlags f).stack = s.stack := rfl
@[simp] theorem State.setFlags_sp (f : LifecycleFlags) : (s.setFlags f).sp = s.sp := rfl
@[simp] theorem State.setFlags_dt (f : LifecycleFlags) : (s.setFlags f).dt = s.dt := rfl
@[simp] theorem State.setFlags_st (f : LifecycleFlags) : (s.setFlags f).st = s.st := rfl
@[simp] theorem State.setFlags_fb (f : LifecycleFlags) : (s.setFlags f).fb = s.fb := rfl
@[simp] theorem State.setFlags_dirty (f : LifecycleFlags) : (s.setFlags f).dirty = s.dirty := rfl
@[simp] theorem State.setFlags_flags (f : LifecycleFlags) : (s.setFlags f).flags = f := rfl
@[simp] theorem State.setFlags_keys (f : LifecycleFlags) : (s.setFlags f).keys = s.keys := rfl
@[simp] theorem State.setFlags_pulseCpu (f : LifecycleFlags) : (s.setFlags f).pulseCpu = s.pulseCpu := rfl
@[simp] theorem State.setFlags_pulseTimer (f : LifecycleFlags) : (s.setFlags f).pulseTimer = s.pulseTimer := rfl
@[simp] theorem State.setFlags_cfg (f : LifecycleFlags) : (s.setFlags f).cfg = s.cfg := rfl
@[simp] theorem State.setFlags_draws (f : LifecycleFlags) : (s.setFlags f).draws = s.draws := rfl
@[simp] theorem State.setFlags_inputs (f : LifecycleFlags) : (s.setFlags f).inputs = s.inputs := rfl

/-! ### setFlag -/

@[simp] theorem State.setFlag_mem (b : Bool) : (s.setFlag b).mem = s.mem := rfl
@[simp] theorem State.setFlag_v (b : Bool) : (s.setFlag b).v = s.v.set vf (flagByte b) := rfl
@[simp] theorem State.setFlag_i (b : Bool) : (s.setFlag b).i = s.i := rfl
@[simp] theorem State.setFlag_pc (b : Bool) : (s.setFlag b).pc = s.pc := rfl
@[simp] theorem State.setFlag_stack (b : Bool) : (s.setFlag b).stack = s.stack := rfl
@[simp] theorem State.setFlag_sp (b : Bool) : (s.setFlag b).sp = s.sp := rfl
@[simp] theorem State.setFlag_dt (b : Bool) : (s.setFlag b).dt = s.dt := rfl
@[simp] theorem State.setFlag_st (b : Bool) : (s.setFlag b).st = s.st := rfl
@[simp] theorem State.setFlag_fb (b : Bool) : (s.setFlag b).fb = s.fb := rfl
@[simp] theorem State.setFlag_dirty (b : Bool) : (s.setFlag b).dirty = s.dirty := rfl
@[simp] theorem State.setFlag_flags (b : Bool) : (s.setFlag b).flags = s.flags := rfl
@[simp] theorem State.setFlag_keys (b : Bool) : (s.setFlag b).keys = s.keys := rfl
@[simp] theorem State.setFlag_pulseCpu (b : Bool) : (s.setFlag b).pulseCpu = s.pulseCpu := rfl
@[simp] theorem State.setFlag_pulseTimer (b : Bool) : (s.setFlag b).pulseTimer = s.pulseTimer := rfl
@[simp] theorem State.setFlag_cfg (b : Bool) : (s.setFlag b).cfg = s.cfg := rfl
@[simp] theorem State.setFlag_draws (b : Bool) : (s.setFlag b).draws = s.draws := rfl
@[simp] theorem State.setFlag_inputs (b : Bool) : (s.setFlag b).inputs = s.inputs := rfl

/-! ### setKey -/

@[simp] theorem State.setKey_mem (k : Fin 16) (b : Bool) : (s.setKey k b).mem = s.mem := rfl
@[simp] theorem State.setKey_v (k : Fin 16) (b : Bool) : (s.setKey k b).v = s.v := rfl
@[simp] theorem State.setKey_i (k : Fin 16) (b : Bool) : (s.setKey k b).i = s.i := rfl
@[simp] theorem State.setKey_pc (k : Fin 16) (b : Bool) : (s.setKey k b).pc = s.pc := rfl
@[simp] theorem State.setKey_stack (k : Fin 16) (b : Bool) : (s.setKey k b).stack = s.stack := rfl
@[simp] theorem State.setKey_sp (k : Fin 16) (b : Bool) : (s.setKey k b).sp = s.sp := rfl
@[simp] theorem State.setKey_dt (k : Fin 16) (b : Bool) : (s.setKey k b).dt = s.dt := rfl
@[simp] theorem State.setKey_st (k : Fin 16) (b : Bool) : (s.setKey k b).st = s.st := rfl
@[simp] theorem State.setKey_fb (k : Fin 16) (b : Bool) : (s.setKey k b).fb = s.fb := rfl
@[simp] theorem State.setKey_dirty (k : Fin 16) (b : Bool) : (s.setKey k b).dirty = s.dirty := rfl
@[simp] theorem State.setKey_flags (k : Fin 16) (b : Bool) : (s.setKey k b).flags = s.flags := rfl
@[simp] theorem State.setKey_keys (k : Fin 16) (b : Bool) : (s.setKey k b).keys = s.keys.set k b := rfl
@[simp] theorem State.setKey_pulseCpu (k : Fin 16) (b : Bool) : (s.setKey k b).pulseCpu = s.pulseCpu := rfl
@[simp] theorem State.setKey_pulseTimer (k : Fin 16) (b : Bool) : (s.setKey k b).pulseTimer = s.pulseTimer := rfl
@[simp] theorem State.setKey_cfg (k : Fin 16) (b : Bool) : (s.setKey k b).cfg = s.cfg := rfl
@[simp] theorem State.setKey_draws (k : Fin 16) (b : Bool) : (s.setKey k b).draws = s.draws := rfl
@[simp] theorem State.setKey_inputs (k : Fin 16) (b : Bool) : (s.setKey k b).inputs = s.inputs := rfl

/-! ### advance -/

@[simp] theorem State.advance_mem : s.advance.mem = s.mem := rfl
@[simp] theorem State.advance_v : s.advance.v = s.v := rfl
@[simp] theorem State.advance_i : s.advance.i = s.i := rfl
@[simp] theorem State.advance_pc : s.advance.pc = s.pc + 2 := rfl
@[simp] theorem State.advance_stack : s.advance.stack = s.stack := rfl
@[simp] theorem State.advance_sp : s.advance.sp = s.sp := rfl
@[simp] theorem State.advance_dt : s.advance.dt = s.dt := rfl
@[simp] theorem State.advance_st : s.advance.st = s.st := rfl
@[simp] theorem State.advance_fb : s.advance.fb = s.fb := rfl
@[simp] theorem State.advance_dirty : s.advance.dirty = s.dirty := rfl
@[simp] theorem State.advance_flags : s.advance.flags = s.flags := rfl
@[simp] theorem State.advance_keys : s.advance.keys = s.keys := rfl
@[simp] theorem State.advance_pulseCpu : s.advance.pulseCpu = s.pulseCpu := rfl
@[simp] theorem State.advance_pulseTimer : s.advance.pulseTimer = s.pulseTimer := rfl
@[simp] theorem State.advance_cfg : s.advance.cfg = s.cfg := rfl
@[simp] theorem State.advance_draws : s.advance.draws = s.draws := rfl
@[simp] theorem State.advance_inputs : s.advance.inputs = s.inputs := rfl

/-! ### skipIf -/

@[simp] theorem State.skipIf_mem (c : Bool) : (s.skipIf c).mem = s.mem := rfl
@[simp] theorem State.skipIf_v (c : Bool) : (s.skipIf c).v = s.v := rfl
@[simp] theorem State.skipIf_i (c : Bool) : (s.skipIf c).i = s.i := rfl
@[simp] theorem State.skipIf_pc (c : Bool) : (s.skipIf c).pc = if c then s.pc + 4 else s.pc + 2 := rfl
@[simp] theorem State.skipIf_stack (c : Bool) : (s.skipIf c).stack = s.stack := rfl
@[simp] theorem State.skipIf_sp (c : Bool) : (s.skipIf c).sp = s.sp := rfl
@[simp] theorem State.skipIf_dt (c : Bool) : (s.skipIf c).dt = s.dt := rfl
@[simp] theorem State.skipIf_st (c : Bool) : (s.skipIf c).st = s.st := rfl
@[simp] theorem State.skipIf_fb (c : Bool) : (s.skipIf c).fb = s.fb := rfl
@[simp] theorem State.skipIf_dirty (c : Bool) : (s.skipIf c).dirty = s.dirty := rfl
@[simp] theorem State.skipIf_flags (c : Bool) : (s.skipIf c).flags = s.flags := rfl
@[simp] theorem State.skipIf_keys (c : Bool) : (s.skipIf c).keys = s.keys := rfl
@[simp] theorem State.skipIf_pulseCpu (c : Bool) : (s.skipIf c).pulseCpu = s.pulseCpu := rfl
@[simp] theorem State.skipIf_pulseTimer (c : Bool) : (s.skipIf c).pulseTimer = s.pulseTimer := rfl
@[simp] theorem State.skipIf_cfg (c : Bool) : (s.skipIf c).cfg = s.cfg := rfl
@[simp] theorem State.skipIf_draws (c : Bool) : (s.skipIf c).draws = s.draws := rfl
@[simp] theorem State.skipIf_inputs (c : Bool) : (s.skipIf c).inputs = s.inputs := rfl

/-! ### raiseDraw -/

@[simp] theorem State.raiseDraw_mem : s.raiseDraw.mem = s.mem := rfl
@[simp] theorem State.raiseDraw_v : s.raiseDraw.v = s.v := rfl
@[simp] theorem State.raiseDraw_i : s.raiseDraw.i = s.i := rfl
@[simp] theorem State.raiseDraw_pc : s.raiseDraw.pc = s.pc := rfl
@[simp] theorem State.raiseDraw_stack : s.raiseDraw.stack = s.stack := rfl
@[simp] theorem State.raiseDraw_sp : s.raiseDraw.sp = s.sp := rfl
@[simp] theorem State.raiseDraw_dt : s.raiseDraw.dt = s.dt := rfl
@[simp] theorem State.raiseDraw_st : s.raiseDraw.st = s.st := rfl
@[simp] theorem State.raiseDraw_fb : s.raiseDraw.fb = s.fb := rfl
@[simp] theorem State.raiseDraw_dirty : s.raiseDraw.dirty = s.dirty := rfl
@[simp] theorem State.raiseDraw_flags : s.raiseDraw.flags = { s.flags with cpuDrawPending := true } := rfl
@[simp] theorem State.raiseDraw_keys : s.raiseDraw.keys = s.keys := rfl
@[simp] theorem State.raiseDraw_pulseCpu : s.raiseDraw.pulseCpu = s.pulseCpu := rfl
@[simp] theorem State.raiseDraw_pulseTimer : s.raiseDraw.pulseTimer = s.pulseTimer := rfl
@[simp] theorem State.raiseDraw_cfg : s.raiseDraw.cfg = s.cfg := rfl
@[simp] theorem State.raiseDraw_draws : s.raiseDraw.draws = s.draws := rfl
@[simp] theorem State.raiseDraw_inputs : s.raiseDraw.inputs = s.inputs := rfl

/-! ### stopCore -/

@[simp] theorem State.stopCore_mem : s.stopCore.mem = s.mem := rfl
@[simp] theorem State.stopCore_v : s.stopCore.v = s.v := rfl
@[simp] theorem State.stopCore_i : s.stopCore.i = s.i := rfl
@[simp] theorem State.stopCore_pc : s.stopCore.pc = s.pc := rfl
@[simp] theorem State.stopCore_stack : s.stopCore.stack = s.stack := rfl
@[simp] theorem State.stopCore_sp : s.stopCore.sp = s.sp := rfl
@[simp] theorem State.stopCore_dt : s.stopCore.dt = s.dt := rfl
@[simp] theorem State.stopCore_st : s.stopCore.st = s.st := rfl
@[simp] theorem State.stopCore_fb : s.stopCore.fb = s.fb := rfl
@[simp] theorem State.stopCore_dirty : s.stopCore.dirty = s.dirty := rfl
@[simp] theorem State.stopCore_flags : s.stopCore.flags = LifecycleFlags.clear := rfl
@[simp] theorem State.stopCore_keys : s.stopCore.keys = s.keys := rfl
@[simp] theorem State.stopCore_pulseCpu : s.stopCore.pulseCpu = false := rfl
@[simp] theorem State.stopCore_pulseTimer : s.stopCore.pulseTimer = false := rfl
@[simp] theorem State.stopCore_cfg : s.stopCore.cfg = s.cfg := rfl
@[simp] theorem State.stopCore_draws : s.stopCore.draws = s.draws := rfl
@[simp] theorem State.stopCore_inputs : s.stopCore.inputs = s.inputs := rfl

/-! ### timerTick -/

@[simp] theorem State.timerTick_mem : s.timerTick.mem = s.mem := rfl
@[simp] theorem State.timerTick_v : s.timerTick.v = s.v := rfl
@[simp] theorem State.timerTick_i : s.timerTick.i = s.i := rfl
@[simp] theorem State.timerTick_pc : s.timerTick.pc = s.pc := rfl
@[simp] theorem State.timerTick_stack : s.timerTick.stack = s.stack := rfl
@[simp] theorem State.timerTick_sp : s.timerTick.sp = s.sp := rfl
@[simp] theorem State.timerTick_dt : s.timerTick.dt = tickDown s.dt := rfl
@[simp] theorem State.timerTick_st : s.timerTick.st = tickDown s.st := rfl
@[simp] theorem State.timerTick_fb : s.timerTick.fb = s.fb := rfl
@[simp] theorem State.timerTick_dirty : s.timerTick.dirty = s.dirty := rfl
@[simp] theorem State.timerTick_flags : s.timerTick.flags = { s.flags.promoteDraw with soundActive := tickDown s.st != 0 } := rfl
@[simp] theorem State.timerTick_keys : s.timerTick.keys = s.keys := rfl
@[simp] theorem State.timerTick_pulseCpu : s.timerTick.pulseCpu = s.pulseCpu := rfl
@[simp] theorem State.timerTick_pulseTimer : s.timerTick.pulseTimer = s.pulseTimer := rfl
@[simp] theorem State.timerTick_cfg : s.timerTick.cfg = s.cfg := rfl
@[simp] theorem State.timerTick_draws : s.timerTick.draws = s.draws := rfl
@[simp] theorem State.timerTick_inputs : s.timerTick.inputs = s.inputs := rfl

end

end Sys2Proof.Machine
end

