-- ==== Sys2Proof/Laws/Display.lean ====
section
/-! SUPPORT. What the pixel and dirty-cell operations do, said once through `pixel` and `dirtyCell`. -/

namespace Sys2Proof.Machine

theorem pixel_togglePixel (fb : Framebuffer) (x x' : Fin 64) (y y' : Fin 32) :
    pixel (togglePixel fb x y) x' y' = (pixel fb x' y' ^^ decide (x' = x ∧ y' = y)) := by
  have hx := x.isLt
  have hx' := x'.isLt
  by_cases hy : y' = y
  · subst hy
    simp only [pixel, togglePixel, Fin.getElem_fin, Vector.getElem_set_self, BitVec.getMsbD_xor, and_true]
    congr 1
    rw [BitVec.getMsbD_eq_getLsbD]
    simp only [BitVec.getLsbD_twoPow, hx', decide_true, Bool.true_and, Fin.ext_iff]
    rw [Bool.eq_iff_iff]
    simp only [Bool.and_eq_true, decide_eq_true_eq]
    omega
  · have hy' : y.val ≠ y'.val := fun e => hy (Fin.ext e.symm)
    simp [pixel, togglePixel, hy, hy']

theorem pixel_darkFb (x : Fin 64) (y : Fin 32) : pixel darkFb x y = false := by
  simp [pixel, darkFb]

theorem dirtyCell_markCell (d : DirtyMatrix) (r r' : Fin 32) (c c' : Fin 8) :
    dirtyCell (markCell d r c) r' c' = (dirtyCell d r' c' || decide (r' = r ∧ c' = c)) := by
  have hc' := c'.isLt
  have hc := c.isLt
  by_cases hr : r' = r
  · subst hr
    simp only [dirtyCell, markCell, Fin.getElem_fin, Vector.getElem_set_self, BitVec.getLsbD_or,
      BitVec.getLsbD_twoPow, true_and, Fin.ext_iff]
    congr 1
    rw [Bool.eq_iff_iff]
    simp only [Bool.and_eq_true, decide_eq_true_eq]
    omega
  · have hr' : r.val ≠ r'.val := fun e => hr (Fin.ext e.symm)
    simp [dirtyCell, markCell, hr, hr']

theorem dirtyCell_unmarkCell (d : DirtyMatrix) (r r' : Fin 32) (c c' : Fin 8) :
    dirtyCell (unmarkCell d r c) r' c' = (dirtyCell d r' c' && !decide (r' = r ∧ c' = c)) := by
  have hc' := c'.isLt
  have hc := c.isLt
  by_cases hr : r' = r
  · subst hr
    simp only [dirtyCell, unmarkCell, Fin.getElem_fin, Vector.getElem_set_self, BitVec.getLsbD_and,
      BitVec.getLsbD_not, BitVec.getLsbD_twoPow, true_and, Fin.ext_iff]
    congr 1
    rw [Bool.eq_iff_iff]
    simp only [Bool.and_eq_true, Bool.not_eq_true', decide_eq_true_eq, Bool.and_eq_false_iff, decide_eq_false_iff_not]
    omega
  · have hr' : r.val ≠ r'.val := fun e => hr (Fin.ext e.symm)
    simp [dirtyCell, unmarkCell, hr, hr']

theorem dirtyCell_allDirty (r : Fin 32) (c : Fin 8) : dirtyCell allDirty r c = true := by
  have e : ∀ c : Fin 8, (0xFF : BitVec 8).getLsbD c.val = true := by decide
  simpa [dirtyCell, allDirty] using e c

theorem wrapX_val (n : Nat) : (wrapX n).val = n % 64 := rfl

theorem wrapY_val (n : Nat) : (wrapY n).val = n % 32 := rfl

/-- One sprite bit: the pixel it lands on is toggled, and counts as erased if it was lit. -/
theorem drawBit_fst (x x' : Fin 64) (y y' : Fin 32) (bit : Bool) (c : Framebuffer × Bool) :
    pixel (drawBit x y bit c).1 x' y' = (pixel c.1 x' y' ^^ (bit && decide (x' = x ∧ y' = y))) := by
  unfold drawBit
  cases bit <;> simp [pixel_togglePixel]

theorem drawBit_snd (x : Fin 64) (y : Fin 32) (bit : Bool) (c : Framebuffer × Bool) :
    (drawBit x y bit c).2 = (c.2 || (bit && pixel c.1 x y)) := by
  unfold drawBit
  cases bit <;> simp

end Sys2Proof.Machine
end

