-- ==== Sys2Proof/Laws/Memory.lean ====
section
/-! SUPPORT. Read after write, and the canonical form, for every memory operation. -/

namespace Sys2Proof.Machine

theorem ix_lt (a : Nat) : ix a < memSize := Nat.mod_lt _ (by decide)

theorem Memory.read_insert (m : Memory) (k : Nat) (b : Byte) (j : Nat) :
    (m.insert k b).read j = if j = k then b else m.read j := by
  induction m with
  | nil => simp only [insert, read]; grind
  | cons c rest ih =>
    obtain ⟨a, d⟩ := c
    unfold insert
    simp only [read] at ih ⊢
    grind [read]

theorem Memory.read_erase (m : Memory) (k j : Nat) :
    (m.erase k).read j = if j = k then 0 else m.read j := by
  induction m with
  | nil => simp [erase, read]
  | cons c rest ih =>
    obtain ⟨a, d⟩ := c
    unfold erase at ih ⊢
    by_cases h : a = k
    · simp [h, ih, read]; grind
    · simp [h, ih, read]; grind

/-- A read after a write gives the byte written at its index and the old byte at every other. -/
theorem Memory.read_write (m : Memory) (k : Nat) (b : Byte) (j : Nat) :
    (m.write k b).read j = if j = k then b else m.read j := by
  unfold write
  split_ifs with h hj hj <;> simp_all [read_erase, read_insert]

theorem Memory.read_write_same (m : Memory) (k : Nat) (b : Byte) : (m.write k b).read k = b := by
  simp [read_write]

theorem Memory.read_write_other (m : Memory) {k j : Nat} (b : Byte) (h : j ≠ k) :
    (m.write k b).read j = m.read j := by
  simp [read_write, h]

theorem Memory.mem_insert {m : Memory} {k : Nat} {b : Byte} {c : Host.Cell} (h : c ∈ m.insert k b) :
    c = (k, b) ∨ c ∈ m := by
  induction m with
  | nil => simp_all [insert]
  | cons d rest ih =>
    obtain ⟨a, e⟩ := d
    unfold insert at h
    split_ifs at h with h1 h2 <;> simp_all <;> grind

theorem Memory.insert_wf {m : Memory} (h : m.wf) {k : Nat} (hk : k < memSize) {b : Byte} (hb : b ≠ 0) :
    (m.insert k b).wf := by
  induction m with
  | nil => simp_all [insert, wf]
  | cons d rest ih =>
    obtain ⟨a, e⟩ := d
    obtain ⟨hp, hr⟩ := h
    rw [List.pairwise_cons] at hp
    have hrest : Memory.wf rest := ⟨hp.2, fun c hc => hr c (List.mem_cons_of_mem _ hc)⟩
    unfold insert
    split_ifs with h1 h2
    · refine ⟨List.pairwise_cons.2 ⟨?_, List.pairwise_cons.2 hp⟩, ?_⟩
      · rintro c hc
        rcases List.mem_cons.1 hc with rfl | hc
        · exact h1
        · exact lt_trans h1 (hp.1 c hc)
      · rintro c hc
        rcases List.mem_cons.1 hc with rfl | hc
        · exact ⟨hk, hb⟩
        · exact hr c hc
    · subst h2
      refine ⟨List.pairwise_cons.2 hp, ?_⟩
      rintro c hc
      rcases List.mem_cons.1 hc with rfl | hc
      · exact ⟨hk, hb⟩
      · exact hrest.2 c hc
    · have hi := ih hrest
      refine ⟨List.pairwise_cons.2 ⟨?_, hi.1⟩, ?_⟩
      · intro c hc
        rcases mem_insert hc with rfl | hc
        · show a < k
          omega
        · exact hp.1 c hc
      · rintro c hc
        rcases List.mem_cons.1 hc with rfl | hc
        · exact hr _ (List.mem_cons_self ..)
        · exact hi.2 c hc

theorem Memory.erase_wf {m : Memory} (h : m.wf) (k : Nat) : (m.erase k).wf :=
  ⟨h.1.sublist List.filter_sublist, fun c hc => h.2 c (List.mem_filter.1 hc).1⟩

/-- A write inside the address space keeps the canonical form. -/
theorem Memory.write_wf {m : Memory} (h : m.wf) {k : Nat} (hk : k < memSize) (b : Byte) : (m.write k b).wf := by
  unfold write
  split_ifs with hb
  · exact erase_wf h k
  · exact insert_wf h hk hb

/-- Ascending writes through `Ix` keep the canonical form. -/
theorem Memory.writeBytes_wf (bytes : List Byte) {m : Memory} (h : m.wf) (base : Nat) :
    (m.writeBytes base bytes).wf := by
  induction bytes generalizing m base with
  | nil => exact h
  | cons b rest ih => exact ih (write_wf h (ix_lt base) b) (base + 1)

/-- Empty memory, the memory of State.reset, is in canonical form. -/
theorem Memory.nil_wf : Memory.wf [] := by decide

/-- An index no stored byte goes to reads as before. -/
theorem Memory.read_writeBytes_other (bytes : List Byte) (m : Memory) (base j : Nat)
    (h : ∀ k < bytes.length, ix (base + k) ≠ j) : (m.writeBytes base bytes).read j = m.read j := by
  induction bytes generalizing m base with
  | nil => rfl
  | cons b rest ih =>
    have h0 : ix base ≠ j := by simpa using h 0 (by simp)
    unfold writeBytes
    rw [ih, read_write_other _ _ (Ne.symm h0)]
    intro k hk
    have := h (k + 1) (by simp; omega)
    rwa [show base + (k + 1) = base + 1 + k by omega] at this

/-- Fewer bytes than the address space holds: the k-th stored byte reads back at `Ix(base + k)`. -/
theorem Memory.read_writeBytes_same (bytes : List Byte) (m : Memory) (base k : Nat) (hk : k < bytes.length)
    (hl : bytes.length ≤ memSize) : (m.writeBytes base bytes).read (ix (base + k)) = bytes[k] := by
  induction bytes generalizing m base k with
  | nil => simp at hk
  | cons b rest ih =>
    unfold writeBytes
    have hs : memSize = 4096 := rfl
    simp only [List.length_cons] at hk hl
    match k with
    | 0 =>
      rw [read_writeBytes_other, read_write]
      · simp
      · intro j hj
        simp only [ix, hs]
        omega
    | k + 1 =>
      rw [show base + (k + 1) = base + 1 + k by omega, ih _ _ _ (by omega) (by omega)]
      simp

/-- Every index after bytes no more than the address space holds are stored: the byte at its distance from the base, modulo
the address space, or the old one. -/
theorem Memory.read_writeBytes (bytes : List Byte) (m : Memory) (base j : Nat) (hl : bytes.length ≤ memSize) :
    (m.writeBytes base bytes).read j =
      if j < memSize ∧ (j + memSize - base % memSize) % memSize < bytes.length then
        bytes.getD ((j + memSize - base % memSize) % memSize) 0
      else m.read j := by
  have hs : memSize = 4096 := rfl
  split_ifs with h
  · have hj : ix (base + (j + memSize - base % memSize) % memSize) = j := by
      simp only [ix, hs] at h ⊢
      omega
    have hr := read_writeBytes_same bytes m base _ h.2 hl
    rw [hj] at hr
    rw [hr, List.getD_eq_getElem _ _ h.2]
  · apply read_writeBytes_other
    intro k hk e
    simp only [ix, hs] at h hl e
    omega

theorem Memory.read_of_lt_all {m : Memory} {k : Nat} (h : ∀ c ∈ m, k < c.1) : m.read k = 0 := by
  induction m with
  | nil => rfl
  | cons c rest ih =>
    obtain ⟨a, b⟩ := c
    have ha : k < a := h (a, b) (List.mem_cons_self ..)
    unfold read
    rw [if_neg (by omega), ih fun c hc => h c (List.mem_cons_of_mem _ hc)]

end Sys2Proof.Machine
end

