-- ==== Sys2Proof/Laws/Ops.lean ====
section
/-! SUPPORT. What each shared operation over stack, memory and flags can do, said once. -/

namespace Sys2Proof.Machine

variable (s : State)

theorem State.push_of_lt (a : Word) (h : s.sp.val < 16) :
    s.push a = some { s with stack := s.stack.set s.sp.val a, sp := ⟨s.sp.val + 1, by omega⟩ } := by
  simp [push, h]

theorem State.push_full (a : Word) (h : s.sp.val = 16) : s.push a = none := by simp [push, h]

theorem State.pop_of_pos (h : 0 < s.sp.val) :
    s.pop = some (s.stack[s.sp.val - 1]'(by omega), { s with sp := ⟨s.sp.val - 1, by omega⟩ }) := by
  simp [pop, h]

theorem State.pop_empty (h : s.sp.val = 0) : s.pop = none := by simp [pop, h]

/-- What memFaultAt says (R52, R53). -/
theorem State.memFaultAt_eq (base count : Nat) :
    s.memFaultAt base count =
      if s.cfg.oobPolicy = .fault ∧ count ≠ 0 ∧ memSize < base + count then some (max base memSize) else none := by
  unfold memFaultAt firstAbove
  cases s.cfg.oobPolicy <;> grind

theorem State.access_of_wraps (base count : Nat) (k : Result) (h : s.cfg.oobPolicy = .wrap) :
    s.access base count k = k := by
  simp [access, memFaultAt, h]

theorem State.access_of_fits (base count : Nat) (k : Result) (h : base + count ≤ memSize) :
    s.access base count k = k := by
  simp [access, memFaultAt_eq, Nat.not_lt.2 h]

theorem State.access_faults (base count : Nat) (k : Result) (hf : s.cfg.oobPolicy = .fault) (hc : count ≠ 0)
    (h : memSize < base + count) : s.access base count k = .fault (.memFault (max base memSize)) := by
  simp [access, memFaultAt_eq, raiseMemFault, hf, hc, h]

/-- The two outcomes of a guarded access. -/
theorem State.access_cases (base count : Nat) (k : Result) :
    s.access base count k = k ∨ ∃ a, s.access base count k = .fault (.memFault a) := by
  unfold access
  cases s.memFaultAt base count with
  | none => exact .inl rfl
  | some a => exact .inr ⟨a, rfl⟩

/-- A guarded access that answers a next state answers the guarded one's. -/
theorem State.next_of_access {base count : Nat} {k : Result} {t : State}
    (h : s.access base count k = .next t) : k = .next t := by
  rcases s.access_cases base count k with e | ⟨a, e⟩ <;> simp_all

/-- VF after a logic instruction (R143 to R145), as one record update. -/
theorem State.logicFlag_eq :
    s.logicFlag = { s with v := if s.cfg.logicResetsVf then s.v.set 15 0 else s.v } := by
  unfold logicFlag
  cases s.cfg.logicResetsVf <;> rfl

/-- VF after FX1E (R171), as one record update. -/
theorem State.indexFlag_eq (o : Bool) :
    s.indexFlag o =
      { s with v := if o then s.v.set 15 1 else if s.cfg.fx1eClearsVf then s.v.set 15 0 else s.v } := by
  unfold indexFlag
  cases o <;> cases s.cfg.fx1eClearsVf <;> rfl

/-- A result, then its flag, then PC + 2 (R153), as one record update. -/
theorem State.withResult_eq (x : Reg) (r : Byte) (f : Bool) :
    s.withResult x r f =
      { s with v := (s.v.set x r).set 15 (if f then 1 else 0), pc := s.pc + 2 } := rfl

theorem wordOfBytes_toNat (hi lo : Byte) : (wordOfBytes hi lo).toNat = 256 * hi.toNat + lo.toNat := by
  have h1 := hi.isLt
  have h2 := lo.isLt
  have e : (zext16 hi <<< 8).toNat = hi.toNat <<< 8 := by
    simp only [BitVec.toNat_shiftLeft, BitVec.toNat_setWidth, Nat.shiftLeft_eq]
    omega
  have f : (zext16 lo).toNat = lo.toNat := by
    simp only [BitVec.toNat_setWidth]
    omega
  unfold wordOfBytes
  rw [BitVec.toNat_or, e, f, ← Nat.shiftLeft_add_eq_or_of_lt h2, Nat.shiftLeft_eq]
  omega

theorem bytesOfWord_length (op : Word) : (bytesOfWord op).length = 2 := rfl

/-- The two bytes of a word give the word back (R54). -/
theorem wordOfBytes_bytesOfWord (op : Word) :
    wordOfBytes (op.extractLsb' 8 8) (op.extractLsb' 0 8) = op := by
  apply BitVec.eq_of_toNat_eq
  rw [wordOfBytes_toNat]
  simp only [BitVec.extractLsb'_toNat, Nat.shiftRight_eq_div_pow]
  have := op.isLt
  omega

/-- A word placed at an address is the word fetched there (R54, R72). -/
theorem State.fetch16_placeWord (a : Nat) (op : Word) : (s.placeWord a op).fetch16 a = op := by
  have h0 := Memory.read_writeBytes_same (bytesOfWord op) s.mem a 0 (by simp [bytesOfWord]) (by simp [bytesOfWord, memSize])
  have h1 := Memory.read_writeBytes_same (bytesOfWord op) s.mem a 1 (by simp [bytesOfWord]) (by simp [bytesOfWord, memSize])
  unfold fetch16 placeWord read
  rw [setMem_mem, h1]
  rw [Nat.add_zero] at h0
  rw [h0]
  exact wordOfBytes_bytesOfWord op

/-- A timer tick never goes below 0 (R234). -/
theorem tickDown_toNat (b : Byte) : (tickDown b).toNat = b.toNat - 1 := by
  unfold tickDown
  split_ifs with h
  · simp [h]
  · have : b.toNat ≠ 0 := fun e => h (BitVec.eq_of_toNat_eq (by simpa using e))
    have := b.isLt
    rw [BitVec.toNat_sub]
    simp
    omega

theorem tickDown_ne_zero (b : Byte) : (tickDown b != 0) = decide (1 < b.toNat) := by
  have h := tickDown_toNat b
  rw [Bool.eq_iff_iff]
  simp only [bne_iff_ne, ne_eq, decide_eq_true_eq]
  rw [← BitVec.toNat_inj]
  simp [h]
  omega

end Sys2Proof.Machine
end

