-- ==== Sys2Proof/Laws/PerInstr.lean ====
section
/-! SUPPORT. The family MatchesRow: the word of every instruction is of its own row of spec/opcode_table.json (R74). -/

namespace Sys2Proof.Laws

/-- Keeping only the major nibble of an `NNN` word. -/
theorem encodeNNN_mask (m : BitVec 4) (nnn : BitVec 12) : encodeNNN m nnn &&& 0xF000 = m ++ 0#12 := by
  have e : (0xF000 : Word) = 0xF#4 ++ 0#12 := by decide
  have f : m &&& 0xF#4 = m := BitVec.and_allOnes
  rw [encodeNNN, e, BitVec.and_append, f, BitVec.and_zero]

/-- Keeping only the major nibble of an `XNN` word. -/
theorem encodeXNN_mask (m : BitVec 4) (x : Reg) (nn : Byte) : encodeXNN m x nn &&& 0xF000 = m ++ 0#12 :=
  encodeNNN_mask m _

/-- Keeping only the major nibble of an `XYN` word. -/
theorem encodeXYN_major (m : BitVec 4) (x y : Reg) (n : BitVec 4) : encodeXYN m x y n &&& 0xF000 = m ++ 0#12 :=
  encodeNNN_mask m _

/-- Keeping the major and function nibbles of an `XY` word. -/
theorem encodeXYN_mask (m : BitVec 4) (x y : Reg) (n : BitVec 4) :
    encodeXYN m x y n &&& 0xF00F = m ++ (0#4 ++ (0#4 ++ n : BitVec 8) : BitVec 12) := by
  have e : (0xF00F : Word) = 0xF#4 ++ (0#4 ++ (0#4 ++ 0xF#4 : BitVec 8) : BitVec 12) := by decide
  have f : ∀ k : BitVec 4, k &&& 0xF#4 = k := fun _ => BitVec.and_allOnes
  rw [encodeXYN, e, BitVec.and_append, BitVec.and_append, BitVec.and_append, f, f, BitVec.and_zero, BitVec.and_zero]

/-- Keeping the major nibble and the function byte of an `X` word. -/
theorem encodeX_mask (m : BitVec 4) (x : Reg) (nn : Byte) :
    encodeXNN m x nn &&& 0xF0FF = m ++ (0#4 ++ nn : BitVec 12) := by
  have e : (0xF0FF : Word) = 0xF#4 ++ (0#4 ++ 0xFF#8 : BitVec 12) := by decide
  have f : m &&& 0xF#4 = m := BitVec.and_allOnes
  have g : nn &&& 0xFF#8 = nn := BitVec.and_allOnes
  rw [encodeXNN, e, BitVec.and_append, BitVec.and_append, f, g, BitVec.and_zero]

/-- The word of the instruction is of its row. -/
def MatchesRow.Statement (i : Instr) : Prop := i.row.covers (encode i) = true

/-- A word is of a row when its masked bits are the row's pattern. -/
theorem covers_of_eq {r : Row} {op : Word} (h : op &&& r.mask = r.pattern) : r.covers op = true := by
  simp [Row.covers, h]

theorem MatchesRow.sys (nnn : BitVec 12) : MatchesRow.Statement (.sys nnn) :=
  covers_of_eq ((encodeNNN_mask _ nnn).trans rfl)
theorem MatchesRow.cls : MatchesRow.Statement .cls :=
  rfl
theorem MatchesRow.ret : MatchesRow.Statement .ret :=
  rfl
theorem MatchesRow.exit : MatchesRow.Statement .exit :=
  rfl
theorem MatchesRow.jp (nnn : BitVec 12) : MatchesRow.Statement (.jp nnn) :=
  covers_of_eq ((encodeNNN_mask _ nnn).trans rfl)
theorem MatchesRow.call (nnn : BitVec 12) : MatchesRow.Statement (.call nnn) :=
  covers_of_eq ((encodeNNN_mask _ nnn).trans rfl)
theorem MatchesRow.seImm (x : Reg) (nn : Byte) : MatchesRow.Statement (.seImm x nn) :=
  covers_of_eq ((encodeXNN_mask _ x nn).trans rfl)
theorem MatchesRow.sneImm (x : Reg) (nn : Byte) : MatchesRow.Statement (.sneImm x nn) :=
  covers_of_eq ((encodeXNN_mask _ x nn).trans rfl)
theorem MatchesRow.seReg (x y : Reg) : MatchesRow.Statement (.seReg x y) :=
  covers_of_eq ((encodeXYN_mask _ x y _).trans rfl)
theorem MatchesRow.ldImm (x : Reg) (nn : Byte) : MatchesRow.Statement (.ldImm x nn) :=
  covers_of_eq ((encodeXNN_mask _ x nn).trans rfl)
theorem MatchesRow.addImm (x : Reg) (nn : Byte) : MatchesRow.Statement (.addImm x nn) :=
  covers_of_eq ((encodeXNN_mask _ x nn).trans rfl)
theorem MatchesRow.ldReg (x y : Reg) : MatchesRow.Statement (.ldReg x y) :=
  covers_of_eq ((encodeXYN_mask _ x y _).trans rfl)
theorem MatchesRow.orReg (x y : Reg) : MatchesRow.Statement (.orReg x y) :=
  covers_of_eq ((encodeXYN_mask _ x y _).trans rfl)
theorem MatchesRow.andReg (x y : Reg) : MatchesRow.Statement (.andReg x y) :=
  covers_of_eq ((encodeXYN_mask _ x y _).trans rfl)
theorem MatchesRow.xorReg (x y : Reg) : MatchesRow.Statement (.xorReg x y) :=
  covers_of_eq ((encodeXYN_mask _ x y _).trans rfl)
theorem MatchesRow.addReg (x y : Reg) : MatchesRow.Statement (.addReg x y) :=
  covers_of_eq ((encodeXYN_mask _ x y _).trans rfl)
theorem MatchesRow.sub (x y : Reg) : MatchesRow.Statement (.sub x y) :=
  covers_of_eq ((encodeXYN_mask _ x y _).trans rfl)
theorem MatchesRow.shr (x y : Reg) : MatchesRow.Statement (.shr x y) :=
  covers_of_eq ((encodeXYN_mask _ x y _).trans rfl)
theorem MatchesRow.subn (x y : Reg) : MatchesRow.Statement (.subn x y) :=
  covers_of_eq ((encodeXYN_mask _ x y _).trans rfl)
theorem MatchesRow.shl (x y : Reg) : MatchesRow.Statement (.shl x y) :=
  covers_of_eq ((encodeXYN_mask _ x y _).trans rfl)
theorem MatchesRow.sneReg (x y : Reg) : MatchesRow.Statement (.sneReg x y) :=
  covers_of_eq ((encodeXYN_mask _ x y _).trans rfl)
theorem MatchesRow.ldI (nnn : BitVec 12) : MatchesRow.Statement (.ldI nnn) :=
  covers_of_eq ((encodeNNN_mask _ nnn).trans rfl)
theorem MatchesRow.jpV0 (nnn : BitVec 12) : MatchesRow.Statement (.jpV0 nnn) :=
  covers_of_eq ((encodeNNN_mask _ nnn).trans rfl)
theorem MatchesRow.rnd (x : Reg) (nn : Byte) : MatchesRow.Statement (.rnd x nn) :=
  covers_of_eq ((encodeXNN_mask _ x nn).trans rfl)
theorem MatchesRow.drw (x y : Reg) (n : BitVec 4) : MatchesRow.Statement (.drw x y n) :=
  covers_of_eq ((encodeXYN_major _ x y n).trans rfl)
theorem MatchesRow.skp (x : Reg) : MatchesRow.Statement (.skp x) :=
  covers_of_eq ((encodeX_mask _ x _).trans rfl)
theorem MatchesRow.sknp (x : Reg) : MatchesRow.Statement (.sknp x) :=
  covers_of_eq ((encodeX_mask _ x _).trans rfl)
theorem MatchesRow.ldVDt (x : Reg) : MatchesRow.Statement (.ldVDt x) :=
  covers_of_eq ((encodeX_mask _ x _).trans rfl)
theorem MatchesRow.ldK (x : Reg) : MatchesRow.Statement (.ldK x) :=
  covers_of_eq ((encodeX_mask _ x _).trans rfl)
theorem MatchesRow.ldDtV (x : Reg) : MatchesRow.Statement (.ldDtV x) :=
  covers_of_eq ((encodeX_mask _ x _).trans rfl)
theorem MatchesRow.ldStV (x : Reg) : MatchesRow.Statement (.ldStV x) :=
  covers_of_eq ((encodeX_mask _ x _).trans rfl)
theorem MatchesRow.addI (x : Reg) : MatchesRow.Statement (.addI x) :=
  covers_of_eq ((encodeX_mask _ x _).trans rfl)
theorem MatchesRow.ldF (x : Reg) : MatchesRow.Statement (.ldF x) :=
  covers_of_eq ((encodeX_mask _ x _).trans rfl)
theorem MatchesRow.ldHf (x : Reg) : MatchesRow.Statement (.ldHf x) :=
  covers_of_eq ((encodeX_mask _ x _).trans rfl)
theorem MatchesRow.ldB (x : Reg) : MatchesRow.Statement (.ldB x) :=
  covers_of_eq ((encodeX_mask _ x _).trans rfl)
theorem MatchesRow.ldMemFromV (x : Reg) : MatchesRow.Statement (.ldMemFromV x) :=
  covers_of_eq ((encodeX_mask _ x _).trans rfl)
theorem MatchesRow.ldVFromMem (x : Reg) : MatchesRow.Statement (.ldVFromMem x) :=
  covers_of_eq ((encodeX_mask _ x _).trans rfl)

end Sys2Proof.Laws
end

