-- ==== Sys2Proof/Laws/Scheduler.lean ====
section
/-! SUPPORT. What the instruction step, a pump and a step of the block can do, said once. -/

namespace Sys2Proof.Machine

theorem State.runWord_of_decode {s : State} {op : Word} {i : Instr} (h : decode op = .ok i) :
    s.runWord op = exec i s := by
  simp [runWord, h]

theorem State.runWord_unknown {s : State} {op : Word} {e : DecodeError} (h : decode op = .error e) :
    s.runWord op = .next s.advance := by
  simp [runWord, h]

/-- An instruction step that answers a next state either executed the fetched instruction or skipped an unknown word. -/
theorem instrStep_cases {s t : State} (h : instrStep s = .next t) :
    (∃ i, decode (s.fetch16 s.pc.toNat) = .ok i ∧ exec i s = .next t) ∨
      (∃ e, decode (s.fetch16 s.pc.toNat) = .error e ∧ t = s.advance) := by
  have h := s.next_of_access h
  unfold State.runWord at h
  split at h
  · next i hi => exact .inl ⟨i, hi, h⟩
  · next e he =>
    injection h with h
    exact .inr ⟨e, he, h.symm⟩

/-- A pump that answers a next state did nothing (not INITIALIZED), ticked at most, or ran one instruction first. -/
theorem pump_cases {c d : Bool} {s t : State} (h : pump c d s = .next t) :
    (s.flags.initialized = false ∧ t = s) ∨
    (s.flags.initialized = true ∧ (s.due c d).1 = false ∧ t = s.takePulses.afterCpu (s.due c d).2) ∨
    (s.flags.initialized = true ∧ (s.due c d).1 = true ∧
      ∃ u, instrStep s.takePulses = .next u ∧ t = u.afterCpu (s.due c d).2) := by
  unfold pump at h
  cases hi : s.flags.initialized with
  | false => left; simp_all
  | true =>
    right
    rw [if_pos hi] at h
    cases hd : (s.due c d).1 with
    | false =>
      left
      simp only [hd, Bool.false_eq_true, if_false] at h
      injection h with h
      exact ⟨rfl, rfl, h.symm⟩
    | true =>
      right
      simp only [hd, if_true] at h
      cases hs : instrStep s.takePulses with
      | next u =>
        rw [hs] at h
        injection h with h
        exact ⟨rfl, rfl, u, rfl, h.symm⟩
      | fault f => rw [hs] at h; cases h
      | refused r => rw [hs] at h; cases h

/-- A step that answers a next state pumped, or performed another operation of the outside. -/
theorem step_cases {s t : State} (h : step s = .next t) :
    (∃ c d, s.nextInput.1 = .pump c d ∧ pump c d s.nextInput.2 = .next t) ∨
      ((∀ c d, s.nextInput.1 ≠ .pump c d) ∧ applyInput s.nextInput.1 s.nextInput.2 = .next t) := by
  unfold step at h
  generalize s.nextInput.1 = e at h ⊢
  cases e
  case pump c d => exact .inl ⟨c, d, rfl, h⟩
  all_goals exact .inr ⟨nofun, h⟩

/-- Taking the next input changes the queue alone. -/
theorem State.nextInput_snd (s : State) : s.nextInput.2 = { s with inputs := s.inputs.tail } := by
  obtain ⟨_, _, _, _, _, _, _, _, _, _, _, _, _, _, _, _, l⟩ := s
  cases l <;> rfl

/-- The pulse exchange changes only the pulse flags. -/
theorem State.takePulses_eq (s : State) :
    s.takePulses = { s with
      pulseCpu := s.pulseCpu && !s.flags.hwTimerMode
      pulseTimer := s.pulseTimer && !s.flags.hwTimerMode } := by
  unfold takePulses
  cases s.flags.hwTimerMode <;> simp

/-- The tail of a pump is a timer tick or nothing. -/
theorem State.afterCpu_cases (s : State) (b : Bool) : s.afterCpu b = s ∨ s.afterCpu b = s.timerTick := by
  unfold afterCpu
  split_ifs
  · exact .inr rfl
  · exact .inl rfl

/-- With nothing queued a step is a pump with the instruction interval elapsed (log entry 4). -/
theorem step_of_no_input {s : State} (h : s.inputs = []) : step s = pump true false s := by
  simp [step, State.nextInput, applyInput, h]

/-- With an input queued a step performs it. -/
theorem step_of_input {s : State} {e : Input} {rest : List Input} (h : s.inputs = e :: rest) :
    step s = applyInput e { s with inputs := rest } := by
  simp [step, State.nextInput, h]

end Sys2Proof.Machine
end

