-- ==== Sys2Proof/Tests/Slice0.lean ====
section
/-! SUPPORT. The model's own tests: ill-formed terms, decoded words, and single steps whose results are those of
spec/95_test_vectors.md (the vector's id stands before each). -/

namespace Sys2Proof.Tests

open Sys2Proof.Machine

/-! ### Ill-formed instructions (R82) -/

theorem test_illformed_sys_cls : (Instr.sys 0x0E0).wellFormed = false := by decide
theorem test_illformed_sys_ret : (Instr.sys 0x0EE).wellFormed = false := by decide
theorem test_illformed_sys_exit : (Instr.sys 0x0FD).wellFormed = false := by decide
theorem test_wellformed_sys : (Instr.sys 0x123).wellFormed = true := by decide

/-! ### Words written out from the encodings of 30_encoding.md -/

theorem test_decode_sys : decode 0x0123 = .ok (.sys 0x123) := by decide
theorem test_decode_cls : decode 0x00E0 = .ok .cls := by decide
theorem test_decode_ret : decode 0x00EE = .ok .ret := by decide
theorem test_decode_exit : decode 0x00FD = .ok .exit := by decide
theorem test_decode_jp : decode 0x1234 = .ok (.jp 0x234) := by decide
theorem test_decode_call : decode 0x2345 = .ok (.call 0x345) := by decide
theorem test_decode_seImm : decode 0x3A10 = .ok (.seImm 0xA 0x10) := by decide
theorem test_decode_sneImm : decode 0x4B11 = .ok (.sneImm 0xB 0x11) := by decide
theorem test_decode_seReg : decode 0x5120 = .ok (.seReg 1 2) := by decide
theorem test_decode_ldImm : decode 0x6AFF = .ok (.ldImm 0xA 0xFF) := by decide
theorem test_decode_addImm : decode 0x7C01 = .ok (.addImm 0xC 0x01) := by decide
theorem test_decode_ldReg : decode 0x8120 = .ok (.ldReg 1 2) := by decide
theorem test_decode_orReg : decode 0x8341 = .ok (.orReg 3 4) := by decide
theorem test_decode_andReg : decode 0x8562 = .ok (.andReg 5 6) := by decide
theorem test_decode_xorReg : decode 0x8783 = .ok (.xorReg 7 8) := by decide
theorem test_decode_addReg : decode 0x89A4 = .ok (.addReg 9 0xA) := by decide
theorem test_decode_sub : decode 0x8BC5 = .ok (.sub 0xB 0xC) := by decide
theorem test_decode_shr : decode 0x8DE6 = .ok (.shr 0xD 0xE) := by decide
theorem test_decode_subn : decode 0x8F07 = .ok (.subn 0xF 0) := by decide
theorem test_decode_shl : decode 0x812E = .ok (.shl 1 2) := by decide
theorem test_decode_sneReg : decode 0x9340 = .ok (.sneReg 3 4) := by decide
theorem test_decode_ldI : decode 0xA2F0 = .ok (.ldI 0x2F0) := by decide
theorem test_decode_jpV0 : decode 0xB300 = .ok (.jpV0 0x300) := by decide
theorem test_decode_rnd : decode 0xC50F = .ok (.rnd 5 0x0F) := by decide
theorem test_decode_drw : decode 0xD125 = .ok (.drw 1 2 5) := by decide
theorem test_decode_skp : decode 0xE59E = .ok (.skp 5) := by decide
theorem test_decode_sknp : decode 0xE6A1 = .ok (.sknp 6) := by decide
theorem test_decode_ldVDt : decode 0xF107 = .ok (.ldVDt 1) := by decide
theorem test_decode_ldK : decode 0xF20A = .ok (.ldK 2) := by decide
theorem test_decode_ldDtV : decode 0xF315 = .ok (.ldDtV 3) := by decide
theorem test_decode_ldStV : decode 0xF418 = .ok (.ldStV 4) := by decide
theorem test_decode_addI : decode 0xFA1E = .ok (.addI 0xA) := by decide
theorem test_decode_ldF : decode 0xF229 = .ok (.ldF 2) := by decide
theorem test_decode_ldHf : decode 0xF130 = .ok (.ldHf 1) := by decide
theorem test_decode_ldB : decode 0xF733 = .ok (.ldB 7) := by decide
theorem test_decode_ldMemFromV : decode 0xFF55 = .ok (.ldMemFromV 0xF) := by decide
theorem test_decode_ldVFromMem : decode 0xF265 = .ok (.ldVFromMem 2) := by decide

/-- S-5, S-6, CF-17, CF-18: the unknown words named there. -/
theorem test_decode_unknown :
    [0x8128, 0x8129, 0x812A, 0x812B, 0x812C, 0x812D, 0x812F].map decode = List.replicate 7 (.error .unknown8XYn) ∧
    [0xE000, 0xE19F].map decode = [.error .unknownEXnn, .error .unknownEXnn] ∧
    [0xF0FF, 0xF131, 0xF056].map decode = [.error .unknownFXnn, .error .unknownFXnn, .error .unknownFXnn] ∧
    decode 0x5121 = .error .unknown5XYn ∧ decode 0x9121 = .error .unknown9XYn := by decide

theorem test_decode_truncated : decodeBytes [0x12] = .error .truncated := by decide

/-- The table has the 37 mnemonics once each, and rows of one priority never cover a word together (R82). -/
theorem test_table_rows : opcodeTable.length = 37 ∧ (opcodeTable.map Row.mnemonic).Nodup := by decide
theorem test_table_disjoint :
    opcodeTable.Pairwise (fun r q => r.priority = q.priority → r.pattern &&& q.mask ≠ q.pattern &&& r.mask) := by
  decide

theorem test_table_word : decodeTableWord 16 0xD125 = some (.drw 1 2 5) := by decide
theorem test_asm : (Instr.ldImm 0xF 5).asm = "LD VF, 0x05" ∧ (Instr.call 0x210).asm = "CALL 0x210" := by decide
theorem test_directive_dw : directiveDW [0x6005, 0x00FD] = directiveDB [0x60, 0x05, 0x00, 0xFD] := by decide

/-! ### Single steps -/

/-- The reset state at `pc` with the given registers. -/
def base (pc : Word) (regs : List (Reg × Byte)) : State :=
  regs.foldl (fun s r => s.setV r.1 r.2) (State.reset.setPc pc)

/-- `base` with I and memory bytes. -/
def baseMem (i : Word) (regs : List (Reg × Byte)) (bytes : List (Nat × Byte)) : State :=
  ((base 0x200 regs).setI i).setMem (bytes.foldl (fun m c => m.write c.1 c.2) [])

/-- Decode and execute one word, then look at the state. -/
def after {α : Type} (op : Word) (s : State) (look : State → α) : Option α :=
  match s.runWord op with
  | .next t => some (look t)
  | .fault _ => none
  | .refused _ => none

/-- Vx, VF and PC. -/
def xfp (x : Reg) (t : State) : Byte × Byte × Word := (t.reg x, t.reg 15, t.pc)

/-- A-1. -/
theorem test_ld_imm : after 0x6AFF (base 0x200 []) (xfp 10) = some (0xFF, 0, 0x202) := by decide
/-- A-2. -/
theorem test_add_imm_no_flag : after 0x7401 (base 0x200 [(4, 0xFF), (15, 0x55)]) (xfp 4) = some (0, 0x55, 0x202) := by decide
/-- A-3. -/
theorem test_add_imm_vf : after 0x7F05 (base 0x200 [(15, 0x10)]) (xfp 15) = some (0x15, 0x15, 0x202) := by decide
/-- A-4. -/
theorem test_ld_reg : after 0x8120 (base 0x200 [(2, 0x33)]) (xfp 1) = some (0x33, 0, 0x202) := by decide
/-- A-5. -/
theorem test_or : after 0x8121 (base 0x200 [(1, 0x0F), (2, 0xF0), (15, 0x55)]) (xfp 1) = some (0xFF, 0x55, 0x202) := by decide
/-- A-5 with LOGIC_RESETS_VF. -/
theorem test_or_resets_vf :
    after 0x8121 { base 0x200 [(1, 0x0F), (2, 0xF0), (15, 0x55)] with cfg := { Config.default with logicResetsVf := true } }
      (xfp 1) = some (0xFF, 0, 0x202) := by decide
/-- A-6. -/
theorem test_and : after 0x8122 (base 0x200 [(1, 0x3C), (2, 0x0F)]) (xfp 1) = some (0x0C, 0, 0x202) := by decide
/-- A-7. -/
theorem test_xor_self : after 0x8113 (base 0x200 [(1, 0x9A)]) (xfp 1) = some (0, 0, 0x202) := by decide
/-- A-8. -/
theorem test_add_reg_carry : after 0x8124 (base 0x200 [(1, 0xFF), (2, 0x01)]) (xfp 1) = some (0, 1, 0x202) := by decide
/-- A-11. -/
theorem test_add_reg_x_is_f : after 0x8F14 (base 0x200 [(15, 0xFF), (1, 0x01)]) (xfp 15) = some (1, 1, 0x202) := by decide
/-- A-15. -/
theorem test_sub_borrow : after 0x8125 (base 0x200 [(1, 0x00), (2, 0x01)]) (xfp 1) = some (0xFF, 0, 0x202) := by decide
/-- A-16. -/
theorem test_sub_x_is_f : after 0x8F15 (base 0x200 [(15, 0x05), (1, 0x03)]) (xfp 15) = some (1, 1, 0x202) := by decide
/-- A-18. -/
theorem test_subn : after 0x8127 (base 0x200 [(1, 0x20), (2, 0x10)]) (xfp 1) = some (0xF0, 0, 0x202) := by decide
/-- A-19. -/
theorem test_subn_equal : after 0x8127 (base 0x200 [(1, 0x42), (2, 0x42)]) (xfp 1) = some (0, 1, 0x202) := by decide
/-- A-21. -/
theorem test_shr : after 0x8306 (base 0x200 [(3, 0xFF)]) (xfp 3) = some (0x7F, 1, 0x202) := by decide
/-- A-23 with SHIFT_USES_VY. -/
theorem test_shr_uses_vy :
    after 0x8346 { base 0x200 [(4, 0x05)] with cfg := { Config.default with shiftUsesVy := true } }
      (fun t => (t.reg 3, t.reg 4, t.reg 15)) = some (2, 5, 1) := by decide
/-- A-24. -/
theorem test_shl : after 0x830E (base 0x200 [(3, 0x81)]) (xfp 3) = some (2, 1, 0x202) := by decide
/-- A-27. -/
theorem test_shl_x_is_f : after 0x8FFE (base 0x200 [(15, 0x81)]) (xfp 15) = some (1, 1, 0x202) := by decide
/-- A-30: NN = 0 gives 0 whatever the draw. -/
theorem test_rnd_zero_mask (s : State) : after 0xC500 s (fun t => (t.reg 5, t.draws)) = some (0, s.draws + 1) := by
  show some ((s.v.set 5 (Config.randomByte s.draws &&& 0))[5], s.draws + 1) = _
  simp
/-- CF-2. -/
theorem test_jp_odd : after 0x1201 (base 0x200 []) State.pc = some 0x201 := by decide
/-- CF-3. -/
theorem test_call : after 0x2210 (base 0x204 []) (fun t => (t.stack[0], t.sp.val, t.pc)) = some (0x206, 1, 0x210) := by decide
/-- CF-7: a call with a full stack is dropped. -/
theorem test_call_full :
    after 0x2300 { base 0x202 [] with sp := 16 } (fun t => (t.stack[15], t.sp.val, t.pc)) = some (0, 16, 0x204) := by
  decide
/-- CF-4. -/
theorem test_ret :
    after 0x00EE { base 0x210 [] with sp := 1, stack := State.reset.stack.set 0 0x206 }
      (fun t => (t.sp.val, t.pc, t.stack[0])) = some (0, 0x206, 0x206) := by decide
/-- CF-8. -/
theorem test_ret_empty : after 0x00EE (base 0x300 []) (fun t => (t.sp.val, t.pc)) = some (0, 0x302) := by decide
/-- CF-6. -/
theorem test_jp_v0 : after 0xBFFF (base 0x200 [(0, 0xFF)]) State.pc = some 0x10FE := by decide
/-- CF-9. -/
theorem test_se_imm_skips : after 0x3310 (base 0x200 [(3, 0x10)]) State.pc = some 0x204 := by decide
/-- CF-19. -/
theorem test_se_imm_pc_wraps : after 0x3310 (base 0xFFFC [(3, 0x10)]) State.pc = some 0x0000 := by decide
/-- CF-11. -/
theorem test_sne_imm_no_skip : after 0x4310 (base 0x200 [(3, 0x10)]) State.pc = some 0x202 := by decide
/-- CF-12. -/
theorem test_sne_imm_skips : after 0x4310 (base 0x200 [(3, 0x11)]) State.pc = some 0x204 := by decide
/-- CF-14. -/
theorem test_se_reg_no_skip : after 0x5120 (base 0x200 [(1, 7), (2, 8)]) State.pc = some 0x202 := by decide
/-- CF-15. -/
theorem test_sne_reg_skips : after 0x9120 (base 0x200 [(1, 7), (2, 8)]) State.pc = some 0x204 := by decide
/-- CF-17. -/
theorem test_unknown_is_no_skip : after 0x5121 (base 0x200 [(1, 7), (2, 7)]) State.pc = some 0x202 := by decide
/-- IM-1. -/
theorem test_ld_i : after 0xA2F0 (base 0x200 []) State.i = some 0x2F0 := by decide
/-- IM-2. -/
theorem test_add_i_overflow : after 0xF01E (baseMem 0xFFF [(0, 1), (15, 0x55)] []) (fun t => (t.i, t.reg 15)) = some (0, 1) := by decide
/-- IM-3. -/
theorem test_add_i_no_overflow : after 0xF01E (baseMem 0xFFE [(0, 1), (15, 0x55)] []) (fun t => (t.i, t.reg 15)) = some (0xFFF, 0x55) := by decide
/-- IM-8. -/
theorem test_ld_f_unmasked : after 0xF229 (base 0x200 [(2, 0xFF)]) State.i = some 0x54B := by decide
/-- IM-10: EXT_FONT_BASE = 0x700. -/
theorem test_ld_hf :
    after 0xF130 { base 0x200 [(1, 0xFF)] with cfg := { Config.default with extFontBase := some 0x700 } } State.i =
      some 0x10F6 := by decide
/-- IM-14. -/
theorem test_ld_b_wraps : after 0xF033 (baseMem 0xFFE [(0, 0xFF)] []) (fun t => (t.read 0xFFE, t.read 0xFFF, t.read 0x000)) = some (2, 5, 5) := by decide
/-- IM-14 with OOB_POLICY = fault. -/
theorem test_ld_b_faults :
    (match ({ baseMem 0xFFE [(0, 0xFF)] [] with cfg := { Config.default with oobPolicy := .fault } } : State).runWord 0xF033 with
      | .next _ => none
      | .fault f => some f
      | .refused _ => none) = some (.memFault 0x1000) := by decide
/-- IM-15. -/
theorem test_store_v0_only : after 0xF055 (baseMem 0x400 [(0, 0xAA), (1, 0xBB)] []) (fun t => (t.read 0x400, t.read 0x401, t.i)) = some (0xAA, 0, 0x400) := by decide
/-- IM-16 with LDST_INCREMENTS_I. -/
theorem test_store_increments_i :
    after 0xFF55 { baseMem 0x400 [(15, 0xFF)] [] with cfg := { Config.default with ldstIncrementsI := true } }
      (fun t => (t.read 0x40F, t.i)) = some (0xFF, 0x410) := by decide
/-- IM-17. -/
theorem test_load_regs : after 0xF265 (baseMem 0x400 [(3, 0x77)] [(0x400, 0x0A), (0x401, 0x0B), (0x402, 0x0C)]) (fun t => (t.reg 0, t.reg 1, t.reg 2, t.reg 3)) = some (0x0A, 0x0B, 0x0C, 0x77) := by decide
/-- IM-18. -/
theorem test_load_regs_wraps : after 0xF165 (baseMem 0xFFF [] [(0xFFF, 0x11), (0x000, 0x22)]) (fun t => (t.reg 0, t.reg 1)) = some (0x11, 0x22) := by decide

/-- The start of the display vectors: no pixel lit, no cell dirty, a sprite at 0x300. -/
def baseDraw (regs : List (Reg × Byte)) (sprite : List Byte) : State :=
  ((base 0x200 regs).setDirty (Vector.replicate 32 0)).setI 0x300 |>.setMem (Memory.writeBytes [] 0x300 sprite)

/-- D-1. -/
theorem test_cls : after 0x00E0 ((baseDraw [] []).setFb (togglePixel darkFb 3 4)) (fun t => (t.fb == darkFb, t.dirty == allDirty, t.flags.cpuDrawPending, t.pc)) = some (true, true, true, 0x202) := by decide
/-- D-7, and D-6 with DIRTY_POLICY = spanned. -/
theorem test_drw_wraps_spans :
    after 0xD011 (baseDraw [(0, 62)] [0xFF]) (fun t => (t.fb[0], t.dirty[0], t.reg 15)) =
      some (0xFC00000000000003, 0x81, 0) ∧
    after 0xD011 { baseDraw [(0, 4)] [0x0F] with cfg := { Config.default with dirtyPolicy := .spanned } }
      (fun t => (t.fb[0], t.dirty[0])) = some (0x00F0000000000000, 3) := by decide
/-- D-9. -/
theorem test_drw_erases : after 0xD011 ((baseDraw [] [0xC0]).setFb (togglePixel darkFb 0 0)) (fun t => (pixel t.fb 0 0, pixel t.fb 1 0, t.reg 15, t.i)) = some (false, true, 1, 0x300) := by decide
/-- KT-1. -/
theorem test_skp : after 0xE59E ((base 0x300 [(5, 0x0C)]) |>.setKey 12 true) State.pc = some 0x304 := by decide
/-- KT-4. -/
theorem test_skp_no_key : after 0xE59E ((base 0x300 [(5, 0x10)]) |>.setKey 0 true) State.pc = some 0x302 := by decide
/-- KT-3. -/
theorem test_sknp : after 0xE5A1 (base 0x300 [(5, 0x0C)]) State.pc = some 0x304 := by decide
/-- KT-5. -/
theorem test_sknp_no_key : after 0xE5A1 (base 0x300 [(5, 0x10)]) State.pc = some 0x304 := by decide
/-- KT-6. -/
theorem test_ld_k_waits : after 0xF20A (base 0x20A [(2, 0x55)]) (fun t => (t.reg 2, t.pc)) = some (0x55, 0x20A) := by decide
/-- KT-7. -/
theorem test_ld_k_lowest : after 0xF20A ((base 0x20A []) |>.setKey 3 true |>.setKey 7 true) (fun t => (t.reg 2, t.pc)) = some (3, 0x20C) := by decide
/-- KT-10. -/
theorem test_ld_v_dt : after 0xF107 ((base 0x200 []).setDt 0x3C) (xfp 1) = some (0x3C, 0, 0x202) := by decide
/-- KT-11. -/
theorem test_ld_dt_v : after 0xF115 (base 0x200 [(1, 0x3C)]) State.dt = some 0x3C := by decide
/-- KT-12. -/
theorem test_ld_st_v :
    after 0xF218 (base 0x200 [(2, 5)]) (fun t => (t.st, t.flags.soundActive)) = some (5, false) := by decide
/-- S-1. -/
theorem test_sys : after 0x0000 (base 0x206 []) State.pc = some 0x208 := by decide
/-- S-4: EXIT within pump(true, true) stops the block before the timer tick. -/
theorem test_exit :
    (match pump true true (((base 0x210 []).setSt 3).placeWord 0x210 0x00FD).armed with
      | .next t => some (t.pc, t.flags.toByte, t.st, pumpReturned t)
      | .fault _ => none
      | .refused _ => none) = some (0x212, 0x00, 3, false) := by decide

/-! ### Scheduler and lifecycle -/

/-- KT-14: the second tick takes ST to 0 and SOUND_ACTIVE to false. -/
theorem test_tick :
    (fun t : State => (t.dt, t.st, t.flags.soundActive)) (((base 0x200 []).setDt 2).setSt 2).timerTick = (1, 1, true) ∧
    (fun t : State => (t.dt, t.st, t.flags.soundActive)) (((base 0x200 []).setDt 2).setSt 2).timerTick.timerTick =
      (0, 0, false) := by decide
/-- KT-15, KT-16. -/
theorem test_tick_promotes :
    ((base 0x200 []).raiseDraw.timerTick.flags.toByte, (base 0x200 []).raiseDraw.timerTick.timerTick.flags.toByte) =
      (0x10, 0x10) := by decide
/-- PL-1: a constructed block does nothing. -/
theorem test_pump_constructed : step State.reset = .next State.reset := rfl
/-- PL-2. -/
theorem test_load_too_long : (State.reset.load (List.replicate 3585 0)).1 = false := by
  rw [State.load, if_neg (by rw [List.length_replicate]; decide)]
/-- PL-4, PL-6: load, then start(false). -/
theorem test_load_start :
    (fun t : Bool × State => (t.1, t.2.pc, t.2.flags.toByte, t.2.read 0x050, t.2.read 0x09B, t.2.read 0x201))
      ((State.reset.load [0x60, 0x05]).2.start false) = (true, 0x200, 0x07, 0xF0, 0xF0, 0x05) := by decide
/-- PL-5, PL-9. -/
theorem test_start_stop_fail : (State.reset.start false).1 = false ∧ State.reset.stop.1 = false := by decide
/-- PL-12: three pulses fire the instruction cadence once. -/
theorem test_pulses :
    (match pump false true { ((base 0x200 []).placeWord 0x200 0x6005).armed.cpuPulse.cpuPulse.cpuPulse with
        flags := { State.reset.flags with initialized := true, running := true, romLoaded := true, hwTimerMode := true } } with
      | .next t => some (t.reg 0, t.pc, t.pulseCpu)
      | .fault _ => none
      | .refused _ => none) = some (5, 0x202, false) := by decide
/-- P0: load, start and the first instruction, from reset, by the queue of inputs. -/
theorem test_boot :
    (match Sys2Proof.core.run 3 { State.reset with inputs := [.load (directiveDW [0x6005, 0x6103]), .start false] } with
      | .next t => some (t.reg 0, t.pc)
      | .fault _ => none
      | .refused _ => none) = some (5, 0x202) := by decide +kernel

/-! ### Witnesses: for every obligation with hypotheses, values that meet them together, at the edges of each clause -/

/-- A running block in polled mode with an opcode stored at PC. -/
def runAt (pc op : Word) : State := ((base pc []).placeWord pc.toNat op).armed

/-- The default parameters under OOB_POLICY = fault, and the other alternatives that witnesses need. -/
def faultCfg : Config := { Config.default with oobPolicy := .fault }

def spannedCfg : Config := { Config.default with dirtyPolicy := .spanned }

/-- The flags of the running block in hardware-timer mode. -/
def hwFlags : LifecycleFlags :=
  { LifecycleFlags.clear with romLoaded := true, running := true, initialized := true, hwTimerMode := true }

theorem witness_EncodeThenDecodeIsIdentity :
    (Instr.sys 0x0E1).wellFormed = true ∧ (Instr.sys 0xFFF).wellFormed = true ∧ (Instr.drw 15 15 15).wellFormed = true := by
  decide

theorem witness_DecodedWordReencodes : decode 0x0000 = .ok (.sys 0) ∧ decode 0xFF65 = .ok (.ldVFromMem 15) := by decide

theorem witness_UnknownWordsAreNoOps :
    (runAt 0xFFE 0x512F).memFaultAt 0xFFE 2 = none ∧
      decode ((runAt 0xFFE 0x512F).fetch16 0xFFE) = .error .unknown5XYn := by decide

theorem witness_InstructionStepRunsDecoded :
    ({ runAt 0xFFE 0x00E0 with cfg := faultCfg } : State).memFaultAt 0xFFE 2 = none ∧
      decode ((runAt 0xFFE 0x00E0).fetch16 0xFFE) = .ok .cls ∧
      (runAt 0xFFF 0x00E0).memFaultAt 0xFFF 2 = none ∧
      decode ((runAt 0xFFF 0x00E0).fetch16 0xFFF) = .ok .cls ∧
      decode ((runAt 0x200 0xE000).fetch16 0x200) = .error .unknownEXnn := by decide

/-- One state for the hypotheses of the three clauses of BlockStepRunsDecoded, which differ in `inputs` alone. -/
theorem witness_BlockStepRunsDecoded (l : List Input) :
    ({ runAt 0x200 0x6005 with inputs := l } : State).flags.initialized = true ∧
      ({ runAt 0x200 0x6005 with inputs := l } : State).flags.hwTimerMode = false ∧
      ({ runAt 0x200 0x6005 with inputs := l } : State).memFaultAt 0x200 2 = none ∧
      decode (({ runAt 0x200 0x6005 with inputs := l } : State).fetch16 0x200) = .ok (.ldImm 0 5) ∧
      ({ runAt 0x200 0x6005 with inputs := l } : State).inputs = l := by
  refine ⟨rfl, rfl, rfl, ?_, rfl⟩
  show decode ((runAt 0x200 0x6005).fetch16 0x200) = _
  decide

theorem witness_PumpFollowsScheduler :
    State.reset.flags.initialized = false ∧
      ((runAt 0x200 0x6005).flags.initialized = true ∧ (runAt 0x200 0x6005).flags.hwTimerMode = false) ∧
      (hwFlags.initialized = true ∧ hwFlags.hwTimerMode = true) := by decide

theorem witness_PulsesMergeAndAreTaken :
    (∃ t, pump false false { runAt 0x200 0x6005 with flags := hwFlags, pulseCpu := true } = .next t) ∧
      ∃ t, pump true true { runAt 0x200 0x6005 with pulseCpu := true } = .next t ∧ t.flags.initialized = true :=
  ⟨⟨_, rfl⟩, _, rfl, by decide⟩

theorem witness_AccessAboveMemoryFaults :
    faultCfg.oobPolicy = .fault ∧ 0xFFF < (0xFFF : Word).toNat + 1 ∧
      (0 < (2 : BitVec 4).toNat ∧ 0xFFF < (0xFFF : Word).toNat + ((2 : BitVec 4).toNat - 1)) ∧
      0xFFF < (0xFFE : Word).toNat + 2 ∧ 0xFFF < (0x1000 : Word).toNat + (0 : Reg).val := by decide

theorem witness_NothingStopsUnderWrap : State.reset.cfg.oobPolicy = .wrap := rfl

theorem witness_ReturnPops :
    ({ State.reset with sp := 1 } : State).sp = (0 : Fin 16).succ ∧
      ({ State.reset with sp := 16 } : State).sp = (15 : Fin 16).succ ∧ State.reset.sp = 0 := by decide

theorem witness_CallPushes :
    State.reset.sp = (0 : Fin 16).castSucc ∧ ({ State.reset with sp := 15 } : State).sp = (15 : Fin 16).castSucc ∧
      ({ State.reset with sp := 16 } : State).sp = 16 := by decide

theorem witness_CallThenReturn :
    ∃ t u : State, ({ State.reset with sp := 15 } : State).sp = (15 : Fin 16).castSucc ∧
      exec (.call 0x300) { State.reset with sp := 15 } = .next t ∧ u.sp = t.sp ∧ u.stack[15] = t.stack[15] :=
  ⟨_, { State.reset with sp := 16, stack := State.reset.stack.set 15 2 }, by decide, rfl, by decide, by decide⟩

/-- DecimalDigitsStored, RegistersStored and RegistersLoaded: any I under `wrap`, the last I that fits under `fault`. -/
theorem witness_BlockTransfers :
    ({ State.reset with i := 0xFFFF } : State).cfg.oobPolicy = .wrap ∧
      ({ State.reset with i := 0xFFD, cfg := faultCfg } : State).i.toNat + 2 ≤ 0xFFF ∧
      ({ State.reset with i := 0xFF0, cfg := faultCfg } : State).i.toNat + (15 : Reg).val ≤ 0xFFF := by decide

theorem witness_StoredWordIsFetched :
    (14 : Reg).val + 1 < 16 ∧ (14 : Reg) < 15 ∧ ∃ t, exec (.ldMemFromV 15) (baseMem 0xFF1 [] []) = .next t :=
  ⟨by decide, by decide, _, rfl⟩

theorem witness_DrawXorsSprite :
    ({ State.reset with i := 0xFFFF } : State).cfg.oobPolicy = .wrap ∧ (0 : BitVec 4) = 0 ∧
      ({ State.reset with i := 0xFF1, cfg := faultCfg } : State).i.toNat + ((15 : BitVec 4).toNat - 1) ≤ 0xFFF := by
  decide

theorem witness_DrawMarksCells :
    (∃ t, exec (.drw 0 1 15) State.reset = .next t) ∧ State.reset.cfg.dirtyPolicy = .toggled ∧
      (∃ t, exec (.drw 0 1 15) { State.reset with cfg := spannedCfg } = .next t) ∧ spannedCfg.dirtyPolicy = .spanned :=
  ⟨⟨_, rfl⟩, rfl, ⟨_, rfl⟩, rfl⟩

theorem witness_DrawTwiceRestores :
    ∃ t u, exec (.drw 0 1 1) (baseDraw [(0, 62)] [0xFF]) = .next t ∧ t.v[0] = (baseDraw [(0, 62)] [0xFF]).v[0] ∧
      t.v[1] = (baseDraw [(0, 62)] [0xFF]).v[1] ∧ exec (.drw 0 1 1) t = .next u :=
  ⟨_, _, rfl, by decide, by decide, rfl⟩

/-- A lit pixel that start clears: the last cell of the screen. -/
def litCorner : State :=
  { State.reset with
    fb := togglePixel darkFb 63 31
    dirty := Vector.replicate 32 0
    flags := { LifecycleFlags.clear with romLoaded := true }
    inputs := [.start false, .clearDirty 0 0] }

theorem witness_ChangedCellsAreDirty :
    ∃ t : State, Sys2Proof.core.run 1 litCorner = .next t ∧ (∀ e ∈ litCorner.inputs.take 1, e ≠ .clearDirty 31 7) ∧
      (63 : Fin 64).val / 8 = (7 : Fin 8).val ∧ pixel litCorner.fb 63 31 ≠ pixel t.fb 63 31 :=
  ⟨_, rfl, by decide, by decide, by decide⟩

theorem witness_OnlyRendererClearsDirty :
    ∃ t, step { State.reset with inputs := [.clearDirty 31 7] } = .next t ∧ dirtyCell State.reset.dirty 31 7 = true ∧
      dirtyCell t.dirty 31 7 = false := ⟨_, rfl, by decide, by decide⟩

theorem witness_RendererPacking :
    (255 : Fin 256).val = (31 : Fin 32).val * 8 + (63 : Fin 64).val / 8 ∧
      (0 : Fin 256).val = (0 : Fin 32).val * 8 + (7 : Fin 64).val / 8 := by decide

theorem witness_FrameReadyEdges_rise :
    ∃ t, step { (runAt 0x200 0x6005).raiseDraw with inputs := [.pump false true] } = .next t ∧
      t.flags.gpuDrawReady = true ∧ (runAt 0x200 0x6005).raiseDraw.flags.gpuDrawReady = false :=
  ⟨_, rfl, by decide, by decide⟩

/-- The instruction of the pump raises the signal, and the tick of the same pump promotes it. -/
theorem witness_FrameReadyEdges_rise_cls :
    ∃ t, step { runAt 0x200 0x00E0 with inputs := [.pump true true] } = .next t ∧
      t.flags.gpuDrawReady = true ∧ (runAt 0x200 0x00E0).flags.gpuDrawReady = false :=
  ⟨_, rfl, by decide, by decide⟩

theorem witness_FrameReadyEdges_fall :
    (∃ t, step { runAt 0x200 0x00FD with flags := { (runAt 0x200 0x00FD).flags with gpuDrawReady := true } } = .next t ∧
      t.flags.gpuDrawReady = false) ∧
    (∃ t, step { State.reset with flags := { hwFlags with gpuDrawReady := true }, inputs := [.resetDraw] } = .next t ∧
      t.flags.gpuDrawReady = false) ∧
    ∃ t, step { State.reset with flags := { hwFlags with gpuDrawReady := true }, inputs := [.stop] } = .next t ∧
      t.flags.gpuDrawReady = false := ⟨⟨_, rfl, by decide⟩, ⟨_, rfl, by decide⟩, _, rfl, by decide⟩

/-- Key F named by 0x0F; with every key down, 0x10 names none. -/
theorem witness_SkipOnKey :
    (∃ k : Fin 16, k.val = (0x0F : Byte).toNat ∧ (State.reset.setKey 15 true).keys[k] = true) ∧
      ¬ ∃ k : Fin 16, k.val = (0x10 : Byte).toNat ∧ (Vector.replicate 16 true)[k] = true := by decide

theorem witness_KeyWaitTakesLowest :
    ((State.reset.setKey 15 true).keys[15] = true ∧
        ∀ j : Fin 16, j < 15 → (State.reset.setKey 15 true).keys[j] = false) ∧
      ∀ k : Fin 16, State.reset.keys[k] = false := by decide

theorem witness_TimerLaws :
    (∃ t, exec (.ldStV 15) (base 0x200 [(15, 0xFF)]) = .next t) ∧ 0 < 255 ∧
      ∃ t, exec (.ldDtV 0) (base 0x200 [(0, 0)]) = .next t := ⟨⟨_, rfl⟩, by decide, _, rfl⟩

theorem witness_LoadRejectsLongRom : 3584 < (List.replicate 3585 (0 : Byte)).length := by
  rw [List.length_replicate]; decide

/-- An extended font whose second byte wraps to address 0. -/
def wrappedFontCfg : Config := { Config.default with extFontBase := some 0xFFF, extFontImage := [0xAA, 0xBB] }

/-- The longest ROM, with the empty extended font of the default configuration and with one that wraps. -/
theorem witness_LoadLeavesMemoryMap :
    (List.replicate 3584 (0 : Byte)).length ≤ 3584 ∧ State.reset.cfg.extFontImage.length ≤ 4096 ∧
      wrappedFontCfg.extFontImage.length ≤ 4096 ∧
      (fun a => (a + 4096 - (extBase wrappedFontCfg).toNat % 4096) % 4096) 0 = 1 :=
  ⟨by rw [List.length_replicate], by decide, by decide, by decide⟩

theorem witness_StartAndStop :
    State.reset.flags.romLoaded = false ∧ hwFlags.running = true ∧
      (litCorner.flags.romLoaded = true ∧ litCorner.flags.running = false) := by decide

theorem witness_KeysChangeOnlyBySetKey :
    ∃ t, step { State.reset with inputs := [.setKey 15 true] } = .next t ∧ t.keys ≠ State.reset.keys :=
  ⟨_, rfl, by decide⟩

theorem witness_StepKeepsInvariant : State.reset.Inv ∧ (runAt 0x200 0x00FD).Inv ∧
    ∃ t, step (runAt 0x200 0x00FD) = .next t := ⟨by decide, by decide, _, rfl⟩

theorem witness_BootRunsRomFirstWord :
    State.reset.flags.running = false ∧ State.reset.cfg.oobPolicy = .wrap ∧ ([0x60, 0x05] : List Byte).length ≤ 3584 ∧
      decode (wordOfBytes 0x60 0x05) = .ok (.ldImm 0 5) ∧
      ({ State.reset with inputs := [.load [0x60, 0x05], .start false, .pump true false] } : State).inputs =
        [.load [0x60, 0x05], .start false, .pump true false] := by decide

theorem witness_RegisterWritersAreListed :
    (∃ t, exec (.ldImm 15 1) State.reset = .next t ∧ t.v[15] ≠ State.reset.v[15]) ∧
      (∃ t, exec (.addI 1) (baseMem 0xFFF [(1, 1)] []) = .next t ∧ t.v[15] ≠ (baseMem 0xFFF [(1, 1)] []).v[15]) ∧
      ∃ t, exec (.ldVFromMem 1) (baseMem 0xFFF [] [(0x000, 0x22)]) = .next t ∧
        t.v[1] ≠ (baseMem 0xFFF [] [(0x000, 0x22)]).v[1] :=
  ⟨⟨_, rfl, by decide⟩, ⟨_, rfl, by decide⟩, _, rfl, by decide⟩

theorem witness_PcMovesInFourWays :
    (∃ t, exec .ret { State.reset with sp := 16 } = .next t) ∧ (∃ t, exec (.call 0xFFF) { State.reset with sp := 16 } = .next t) ∧
      ∃ t, exec (.ldK 0) State.reset = .next t := ⟨⟨_, rfl⟩, ⟨_, rfl⟩, _, rfl⟩

theorem witness_OtherStateWritersAreListed :
    (∃ t, exec (.ldB 0) (baseMem 0x300 [(0, 1)] []) = .next t ∧ t.mem ≠ (baseMem 0x300 [(0, 1)] []).mem) ∧
      (∃ t, exec (.call 0) State.reset = .next t ∧ t.stack ≠ State.reset.stack ∧ t.sp ≠ State.reset.sp) ∧
      (∃ t, exec (.ldI 1) State.reset = .next t ∧ t.i ≠ State.reset.i) ∧
      (∃ t, exec (.ldDtV 0) (base 0 [(0, 1)]) = .next t ∧ t.dt ≠ (base 0 [(0, 1)]).dt) ∧
      (∃ t, exec (.ldStV 0) (base 0 [(0, 1)]) = .next t ∧ t.st ≠ (base 0 [(0, 1)]).st) ∧
      (∃ t, exec .cls litCorner = .next t ∧ t.fb ≠ litCorner.fb ∧
        t.flags.cpuDrawPending ≠ litCorner.flags.cpuDrawPending) ∧
      ∃ t, exec (.rnd 0 0) State.reset = .next t ∧ t.draws ≠ State.reset.draws :=
  ⟨⟨_, rfl, by decide⟩, ⟨_, rfl, by decide, by decide⟩, ⟨_, rfl, by decide⟩, ⟨_, rfl, by decide⟩,
    ⟨_, rfl, by decide⟩, ⟨_, rfl, by decide, by decide⟩, _, rfl, by decide⟩

theorem witness_FixedForTheRun :
    (∃ t, step { litCorner with inputs := [.start true] } = .next t ∧
      t.flags.hwTimerMode ≠ litCorner.flags.hwTimerMode) ∧
    ∃ t, step { State.reset with flags := hwFlags, inputs := [.stop] } = .next t ∧
      t.flags.hwTimerMode ≠ hwFlags.hwTimerMode := ⟨⟨_, rfl, by decide⟩, _, rfl, by decide⟩

end Sys2Proof.Tests
end

section
/-! The packing of the framebuffer as the renderer reads it (10_state.md section 5). -/

open Sys2Proof Sys2Proof.Machine

namespace Sys2Proof.Machine

/-- One bit of one byte of the renderer's read: byte `n` is a slice of row `n div 8`, the leftmost byte the most
significant, so counting its bits from the left continues the count of columns (R33). -/
theorem getMsbD_fbByte (fb : Framebuffer) (n : Fin 256) (j : Nat) (hj : j < 8) :
    (fbByte fb n).getMsbD j = (fb[n.val / 8]'(by omega)).getMsbD (8 * (n.val % 8) + j) := by
  have hcol : 8 * (n.val % 8) + j < 64 := by omega
  have hbit : 8 * (7 - n.val % 8) + (8 - 1 - j) = 64 - 1 - (8 * (n.val % 8) + j) := by omega
  have hlow : 8 - 1 - j < 8 := by omega
  simp only [fbByte, BitVec.getMsbD_eq_getLsbD, BitVec.getLsbD_extractLsb', hj, hcol, hbit, hlow, decide_true,
    Bool.true_and]

end Sys2Proof.Machine

/-- Settles O41: byte `y*8 + x div 8` belongs to row `y`, and its bit `x mod 8` from the left is column `x` of it. -/
theorem rendererPacking : Obligations.RendererPacking := by
  unfold Obligations.RendererPacking
  intro s x y n hn
  have hrow : n.val / 8 = y.val := by omega
  have hcol : 8 * (n.val % 8) + x.val % 8 = x.val := by omega
  have hj : x.val % 8 < 8 := by omega
  calc (s.renderByte n).getLsbD (7 - x.val % 8)
      = (fbByte s.fb n).getMsbD (x.val % 8) := by simp [State.renderByte, BitVec.getMsbD_eq_getLsbD, hj]
    _ = pixel s.fb x y := by simp only [getMsbD_fbByte s.fb n _ hj, hrow, hcol]; rfl

end

section
/-! What each instruction does to the state, said once: the stack and the keypad first, then every instruction. -/

namespace Sys2Proof.Machine

theorem State.pop_cases (s : State) :
    (s.sp = 0 ∧ s.pop = none) ∨
      ∃ k : Fin 16, s.sp = k.succ ∧ s.pop = some (s.stack[k], { s with sp := k.castSucc }) := by
  cases hsp : s.sp using Fin.cases with
  | zero => exact .inl ⟨rfl, s.pop_empty (by simp [hsp])⟩
  | succ k =>
    have hpos : 0 < s.sp.val := by simp [hsp]
    exact .inr ⟨k, rfl, by simp [s.pop_of_pos hpos, hsp, Fin.ext_iff]⟩

theorem State.push_cases (s : State) (a : Word) :
    (s.sp = 16 ∧ s.push a = none) ∨
      ∃ k : Fin 16, s.sp = k.castSucc ∧
        s.push a = some { s with stack := s.stack.set k a, sp := k.succ } := by
  cases hsp : s.sp using Fin.lastCases with
  | last => exact .inl ⟨rfl, s.push_full a (by simp [hsp])⟩
  | cast k =>
    have hlt : s.sp.val < 16 := by simp [hsp]
    exact .inr ⟨k, rfl, by simp [s.push_of_lt a hlt, hsp, Fin.ext_iff]⟩

theorem State.lowestKey_eq_none_iff (s : State) :
    s.lowestKey = none ↔ s.keys = Vector.replicate 16 false := by
  simp [lowestKey, List.find?_eq_none, Vector.ext_iff, Fin.forall_iff]

/-- A written slot differs from before only at the slot written. -/
theorem eq_of_set_ne {α : Type} {n : Nat} {w : Vector α n} {x k : Fin n} {b : α}
    (h : (w.set x b)[k] ≠ w[k]) : k = x := by
  by_contra hk
  exact h (by simp [Vector.getElem_set_ne, Fin.val_ne_of_ne (Ne.symm hk)])

theorem eq_of_next {a t : State} (h : (.next a : Result) = .next t) : t = a :=
  (Host.Outcome.next.inj h).symm

/-- The state `t` is `s` after `i`, up to the values that `i` computes: which fields are written, and where PC goes. -/
def Effect (i : Instr) (s t : State) : Prop :=
  match i with
  | .sys _ => t = s.advance
  | .cls => t = ((s.setFb darkFb).setDirty allDirty).raiseDraw.advance
  | .exit => t = s.advance.stopCore
  | .jp nnn => t = s.setPc (zextNNN nnn)
  | .jpV0 nnn => t = s.setPc (zextNNN nnn + zext16 (s.reg 0))
  | .call nnn =>
    (s.sp = 16 ∧ t = s.advance) ∨
      ∃ k : Fin 16, s.sp = k.castSucc ∧
        t = { s with stack := s.stack.set k (s.pc + 2), sp := k.succ, pc := zextNNN nnn }
  | .ret =>
    (s.sp = 0 ∧ t = s.advance) ∨ ∃ k : Fin 16, s.sp = k.succ ∧ t = { s with sp := k.castSucc, pc := s.stack[k] }
  | .seImm x nn => t = s.skipIf (s.reg x == nn)
  | .sneImm x nn => t = s.skipIf (s.reg x != nn)
  | .seReg x y => t = s.skipIf (s.reg x == s.reg y)
  | .sneReg x y => t = s.skipIf (s.reg x != s.reg y)
  | .skp x => t = s.skipIf (s.pressed (s.reg x))
  | .sknp x => t = s.skipIf (!s.pressed (s.reg x))
  | .ldImm x _ | .addImm x _ | .ldReg x _ | .ldVDt x => ∃ b, t = (s.setV x b).advance
  | .orReg x _ | .andReg x _ | .xorReg x _ => ∃ b, t = (s.setV x b).logicFlag.advance
  | .addReg x _ | .sub x _ | .subn x _ | .shr x _ | .shl x _ => ∃ b f, t = s.withResult x b f
  | .rnd x _ => ∃ b, t = (s.drawByte.2.setV x b).advance
  | .ldK x =>
    (s.keys = Vector.replicate 16 false ∧ t = s) ∨
      (s.keys ≠ Vector.replicate 16 false ∧ ∃ b, t = (s.setV x b).advance)
  | .drw _ _ _ => ∃ fb d f, t = (((s.setFb fb).setDirty d).setFlag f).raiseDraw.advance
  | .ldI _ | .ldF _ | .ldHf _ => ∃ a, t = (s.setI a).advance
  | .addI x => ∃ a, t = ((s.indexFlag (indexOverflow s.i (s.reg x))).setI a).advance
  | .ldDtV x => t = (s.setDt (s.reg x)).advance
  | .ldStV x => t = (s.setSt (s.reg x)).advance
  | .ldB _ => ∃ m, t = (s.setMem m).advance
  | .ldMemFromV x => ∃ m, t = ((s.setMem m).setI (s.iAfterBlock x)).advance
  | .ldVFromMem x => t = ((s.setRegs (s.regsFromMem x)).setI (s.iAfterBlock x)).advance

theorem effect_ret {s t : State} (h : exec .ret s = .next t) : Effect .ret s t := by
  unfold exec execRet at h
  obtain ⟨hsp, hpop⟩ | ⟨k, hsp, hpop⟩ := s.pop_cases
  · rw [hpop] at h
    exact .inl ⟨hsp, eq_of_next h⟩
  · rw [hpop] at h
    exact .inr ⟨k, hsp, eq_of_next h⟩

theorem effect_call {nnn : BitVec 12} {s t : State} (h : exec (.call nnn) s = .next t) : Effect (.call nnn) s t := by
  unfold exec execCall at h
  obtain ⟨hsp, hpush⟩ | ⟨k, hsp, hpush⟩ := s.push_cases (s.pc + 2)
  · rw [hpush] at h
    exact .inl ⟨hsp, eq_of_next h⟩
  · rw [hpush] at h
    exact .inr ⟨k, hsp, eq_of_next h⟩

theorem effect_ldK {x : Reg} {s t : State} (h : exec (.ldK x) s = .next t) : Effect (.ldK x) s t := by
  unfold exec execLdK at h
  cases hk : s.lowestKey with
  | none =>
    rw [hk] at h
    exact .inl ⟨s.lowestKey_eq_none_iff.1 hk, eq_of_next h⟩
  | some k =>
    rw [hk] at h
    have hne : s.keys ≠ Vector.replicate 16 false := fun e => by simp [s.lowestKey_eq_none_iff.2 e] at hk
    exact .inr ⟨hne, _, eq_of_next h⟩

/-- What an instruction that answers a next state can do: the stops are gone, the cases of stack and keypad are told
apart, and the values it computes are left open. -/
theorem effect_of_exec {i : Instr} {s t : State} (h : exec i s = .next t) : Effect i s t := by
  cases i with
  | ret => exact effect_ret h
  | call => exact effect_call h
  | ldK => exact effect_ldK h
  | sys | cls | exit | jp | jpV0 | ldDtV | ldStV => exact eq_of_next h
  | seImm | sneImm | seReg | sneReg | skp | sknp => exact eq_of_next h
  | ldImm | addImm | ldReg | ldVDt | orReg | andReg | xorReg | rnd => exact ⟨_, eq_of_next h⟩
  | addReg | sub | subn | shr | shl => exact ⟨_, _, eq_of_next h⟩
  | ldI | ldF | ldHf | addI => exact ⟨_, eq_of_next h⟩
  | drw => exact ⟨_, _, _, eq_of_next (s.next_of_access h)⟩
  | ldB | ldMemFromV => exact ⟨_, eq_of_next (s.next_of_access h)⟩
  | ldVFromMem => exact eq_of_next (s.next_of_access h)

end Sys2Proof.Machine
end

section
/-! Who writes what (10_state.md): registers, PC and every other field, each read off `Effect`. -/

open Sys2Proof Sys2Proof.Machine

namespace Sys2Proof.Machine

variable {s : State} {x k : Reg}

theorem eq_of_setV_ne {b : Byte} (h : (s.setV x b).v[k] ≠ s.v[k]) : k = x := eq_of_set_ne h

theorem eq_vf_of_setFlag_ne {b : Bool} (h : (s.setFlag b).v[k] ≠ s.v[k]) : k = vf := eq_of_set_ne h

theorem eq_vf_of_logicFlag_ne (h : s.logicFlag.v[k] ≠ s.v[k]) : k = vf ∧ s.cfg.logicResetsVf = true := by
  unfold State.logicFlag at h
  split at h
  case isTrue hc => exact ⟨eq_vf_of_setFlag_ne h, hc⟩
  case isFalse => exact absurd rfl h

theorem eq_vf_of_indexFlag_ne {o : Bool} (h : (s.indexFlag o).v[k] ≠ s.v[k]) :
    k = vf ∧ (o = true ∨ s.cfg.fx1eClearsVf = true) := by
  unfold State.indexFlag at h
  split_ifs at h with ho hc
  · exact ⟨eq_vf_of_setFlag_ne h, .inl ho⟩
  · exact ⟨eq_vf_of_setFlag_ne h, .inr hc⟩
  · exact absurd rfl h

/-- A value that two updates changed was changed by the first or by the second. -/
theorem ne_or_ne_of_ne {α : Type} (b : α) {a c : α} (h : c ≠ a) : b ≠ a ∨ c ≠ b := by
  by_contra! hb
  exact h (hb.2.trans hb.1)

theorem eq_or_eq_vf_of_setV_logicFlag_ne {b : Byte} (h : (s.setV x b).logicFlag.v[k] ≠ s.v[k]) :
    k = x ∨ (k = vf ∧ s.cfg.logicResetsVf = true) :=
  (ne_or_ne_of_ne (s.setV x b).v[k] h).imp eq_of_setV_ne (eq_vf_of_logicFlag_ne (s := s.setV x b))

theorem eq_or_eq_vf_of_withResult_ne {b : Byte} {f : Bool} (h : (s.withResult x b f).v[k] ≠ s.v[k]) :
    k = x ∨ k = vf :=
  (ne_or_ne_of_ne (s.setV x b).v[k] h).imp eq_of_setV_ne eq_vf_of_setFlag_ne

theorem le_of_regsFromMem_ne (h : (s.regsFromMem x)[k] ≠ s.v[k]) : k ≤ x := by
  by_contra hk
  exact h (by simp [State.regsFromMem, hk])

theorem ldstIncrementsI_of_iAfterBlock_ne (h : s.iAfterBlock x ≠ s.i) : s.cfg.ldstIncrementsI = true := by
  by_contra hc
  exact h (by simp [State.iAfterBlock, hc])

theorem State.skipIf_not_pc (c : Bool) : (s.skipIf (!c)).pc = if c then s.pc + 2 else s.pc + 4 := by
  cases c <;> rfl

@[simp] theorem State.logicFlag_pc : s.logicFlag.pc = s.pc := by rw [s.logicFlag_eq]

@[simp] theorem State.indexFlag_pc (o : Bool) : (s.indexFlag o).pc = s.pc := by rw [s.indexFlag_eq]

end Sys2Proof.Machine

/-- Settles O57, class by class of `Effect`: an instruction that is not listed leaves `v` alone, and a listed one
writes its destination, then its flag. -/
theorem registerWritersAreListed : Obligations.RegisterWritersAreListed := by
  unfold Obligations.RegisterWritersAreListed
  intro i s t k h hk
  have he := effect_of_exec h
  cases i with
  | sys | cls | exit | jp | jpV0 | ldDtV | ldStV | seImm | sneImm | seReg | sneReg | skp | sknp =>
    subst he
    exact hk rfl
  | call | ret =>
    obtain ⟨-, rfl⟩ | ⟨_, -, rfl⟩ := he <;> exact hk rfl
  | ldI | ldF | ldHf | ldB | ldMemFromV =>
    obtain ⟨_, rfl⟩ := he
    exact hk rfl
  | ldImm | addImm | ldReg | ldVDt | rnd =>
    obtain ⟨_, rfl⟩ := he
    exact eq_of_setV_ne hk
  | ldK =>
    obtain ⟨-, rfl⟩ | ⟨-, _, rfl⟩ := he
    · exact absurd rfl hk
    · exact eq_of_setV_ne hk
  | orReg | andReg | xorReg =>
    obtain ⟨_, rfl⟩ := he
    exact eq_or_eq_vf_of_setV_logicFlag_ne hk
  | addReg | sub | subn | shr | shl =>
    obtain ⟨_, _, rfl⟩ := he
    exact eq_or_eq_vf_of_withResult_ne hk
  | drw =>
    obtain ⟨_, _, _, rfl⟩ := he
    exact eq_vf_of_setFlag_ne hk
  | addI =>
    obtain ⟨_, rfl⟩ := he
    exact (eq_vf_of_indexFlag_ne hk).imp_right (.imp_left of_decide_eq_true)
  | ldVFromMem =>
    subst he
    exact le_of_regsFromMem_ne hk

/-- Settles O58, class by class of `Effect`. -/
theorem pcMovesInFourWays : Obligations.PcMovesInFourWays := by
  unfold Obligations.PcMovesInFourWays
  intro i s t h
  have he := effect_of_exec h
  cases i with
  | seImm | sneImm | seReg | sneReg | skp =>
    subst he
    simp [State.reg]
  | sknp =>
    subst he
    exact State.skipIf_not_pc _
  | sys | cls | exit | jp | jpV0 | ldDtV | ldStV | ldVFromMem =>
    subst he
    rfl
  | call =>
    obtain ⟨hsp, rfl⟩ | ⟨k, hsp, rfl⟩ := he
    · simp [hsp]
    · have hroom : s.sp ≠ 16 := hsp ▸ k.castSucc_lt_last.ne
      simp [hroom, zextNNN]
  | ret =>
    obtain ⟨hsp, rfl⟩ | ⟨k, hsp, rfl⟩ := he
    · simp [hsp]
    · have hsome : s.sp ≠ 0 := hsp ▸ k.succ_ne_zero
      simpa [hsome] using ⟨k, hsp, rfl⟩
  | ldK =>
    obtain ⟨hkeys, rfl⟩ | ⟨hkeys, _, rfl⟩ := he <;> simp [hkeys]
  | ldImm | addImm | ldReg | ldVDt | rnd | ldI | ldF | ldHf | ldB | ldMemFromV =>
    obtain ⟨_, rfl⟩ := he
    rfl
  | orReg | andReg | xorReg | addI =>
    obtain ⟨_, rfl⟩ := he
    simp
  | addReg | sub | subn | shr | shl =>
    obtain ⟨_, _, rfl⟩ := he
    rfl
  | drw =>
    obtain ⟨_, _, _, rfl⟩ := he
    rfl

/-- Settles O59, class by class of `Effect`: the fields that a class does not write are those of `s`. -/
theorem otherStateWritersAreListed : Obligations.OtherStateWritersAreListed := by
  unfold Obligations.OtherStateWritersAreListed
  intro i s t h
  have he := effect_of_exec h
  cases i with
  | sys | cls | exit | jp | jpV0 | ldDtV | ldStV | seImm | sneImm | seReg | sneReg | skp | sknp =>
    subst he
    simp
  | call | ret =>
    obtain ⟨-, rfl⟩ | ⟨_, -, rfl⟩ := he <;> simp
  | ldImm | addImm | ldReg | ldVDt | ldI | ldF | ldHf | ldB =>
    obtain ⟨_, rfl⟩ := he
    simp
  | rnd =>
    obtain ⟨_, rfl⟩ := he
    simp [State.drawByte]
  | ldK =>
    obtain ⟨-, rfl⟩ | ⟨-, _, rfl⟩ := he <;> simp
  | orReg | andReg | xorReg =>
    obtain ⟨_, rfl⟩ := he
    simp [State.logicFlag_eq]
  | addReg | sub | subn | shr | shl =>
    obtain ⟨_, _, rfl⟩ := he
    simp [State.withResult_eq]
  | drw =>
    obtain ⟨_, _, _, rfl⟩ := he
    simp
  | addI =>
    obtain ⟨_, rfl⟩ := he
    simp [State.indexFlag_eq]
  | ldMemFromV =>
    obtain ⟨_, rfl⟩ := he
    simpa using ldstIncrementsI_of_iAfterBlock_ne
  | ldVFromMem =>
    subst he
    simpa using ldstIncrementsI_of_iAfterBlock_ne

end

section
/-! Memory accesses and the memory map (20_memory.md). -/

open Sys2Proof Sys2Proof.Machine

namespace Sys2Proof.Machine

/-- A block of bytes that ends inside the address space: each index of the block reads its byte, every other the byte
it had. -/
theorem Memory.read_writeBytes_of_fits (bytes : List Byte) (m : Memory) (base j : Nat)
    (h : base + bytes.length ≤ memSize) :
    (m.writeBytes base bytes).read j =
      if base ≤ j ∧ j < base + bytes.length then bytes.getD (j - base) 0 else m.read j := by
  split_ifs with hj
  · obtain ⟨d, rfl⟩ := Nat.exists_eq_add_of_le hj.1
    have hd : d < bytes.length := by omega
    have hix : ix (base + d) = base + d := Nat.mod_eq_of_lt (by omega)
    have hread := read_writeBytes_same bytes m base d hd (by omega)
    rw [hix] at hread
    simp [hread, hd]
  · refine read_writeBytes_other bytes m base j fun d hd hix => hj ?_
    have : ix (base + d) = base + d := Nat.mod_eq_of_lt (by omega)
    omega

theorem loadImage_wf (cfg : Config) (rom : List Byte) : (loadImage cfg rom).wf :=
  Memory.writeBytes_wf _ (Memory.writeBytes_wf _ (Memory.writeBytes_wf _ Memory.nil_wf _) _) _

theorem State.load_of_fits (s : State) {bytes : List Byte} (h : bytes.length ≤ romMax) :
    s.load bytes = (true, { s with mem := loadImage s.cfg bytes, flags := { s.flags with romLoaded := true } }) :=
  if_pos h

variable {s t : State} {x j : Reg}

@[simp] theorem State.regsUpTo_length (s : State) (x : Reg) : (s.regsUpTo x).length = x.val + 1 := by
  simp [regsUpTo]

/-- Each register that FX55 stores reads back at its address in the state it answers (R175). -/
theorem State.read_of_ldMemFromV (h : exec (.ldMemFromV x) s = .next t) (hj : j ≤ x) :
    t.read (s.i.toNat + j.val) = s.v[j] := by
  have ht : t = _ := eq_of_next (s.next_of_access h)
  have hlen : j.val < (s.regsUpTo x).length := by simpa [Nat.lt_succ_iff] using hj
  have hfit : (s.regsUpTo x).length ≤ memSize := by simp [memSize]; omega
  calc t.read (s.i.toNat + j.val)
      = (s.mem.writeBytes (s.ea 0) (s.regsUpTo x)).read (ix (s.ea 0 + j.val)) := by rw [ht]; rfl
    _ = (s.regsUpTo x)[j.val] := Memory.read_writeBytes_same _ _ _ _ hlen hfit
    _ = s.v[j] := by simp [State.regsUpTo]

end Sys2Proof.Machine

/-- Settles O34: the fetch reads the two bytes that FX55 stored from V`k` and V`k + 1`. -/
theorem storedWordIsFetched : Obligations.StoredWordIsFetched := by
  unfold Obligations.StoredWordIsFetched
  intro s t x k hk hkx h
  have hhi : t.read (s.i.toNat + k.val) = s.v[k] := State.read_of_ldMemFromV h hkx.le
  have hlo : t.read (s.i.toNat + (k.val + 1)) = s.v[k.val + 1] :=
    State.read_of_ldMemFromV (j := ⟨k.val + 1, hk⟩) h hkx
  rw [State.fetch16, hhi, Nat.add_assoc, hlo]

/-- Settles O50, block by block of `loadImage`, the last written first: the ROM and the font end inside memory, and
the extended font may wrap. -/
theorem loadLeavesMemoryMap : Obligations.LoadLeavesMemoryMap := by
  unfold Obligations.LoadLeavesMemoryMap
  intro s bytes hrom hext offset
  refine ⟨loadImage s.cfg bytes, s.load_of_fits hrom, loadImage_wf s.cfg bytes, fun a => ?_⟩
  have hromFits : romBase + bytes.length ≤ memSize := by simp only [romBase, memSize]; omega
  have hfontFits : fontBase + s.cfg.fontImage.toList.length ≤ memSize := by simp [fontBase, memSize]
  rw [loadImage, Memory.read_writeBytes_of_fits _ _ _ _ hromFits, Memory.read_writeBytes _ _ _ _ hext,
    Memory.read_writeBytes_of_fits _ _ _ _ hfontFits, Vector.length_toList]
  rfl

/-- Settles O6: both bytes of the word are read through `Ix`, the first into the high half. -/
theorem fetchIsBigEndian : Obligations.FetchIsBigEndian := by
  unfold Obligations.FetchIsBigEndian
  intro s a
  exact wordOfBytes_toNat (s.read a) (s.read (a + 1))

/-- Settles O11: each of the five is one guarded access, of a positive number of bytes that ends above 0xFFF. -/
theorem accessAboveMemoryFaults : Obligations.AccessAboveMemoryFaults := by
  unfold Obligations.AccessAboveMemoryFaults
  intro s hfault
  have hfaults (base count : Nat) (k : Result) (hc : 0 < count) (habove : 0xFFF < base + (count - 1)) :
      s.access base count k = .fault (.memFault (max base 0x1000)) :=
    s.access_faults base count k hfault hc.ne' (by simp only [memSize]; omega)
  refine ⟨fun h => ?_, fun x y n hn h => ?_, fun x h => ?_, fun x h => ⟨?_, ?_⟩⟩
  · exact hfaults _ 2 _ (by decide) h
  · exact hfaults (s.ea 0) n.toNat _ hn h
  · exact hfaults (s.ea 0) 3 _ (by decide) h
  · exact hfaults (s.ea 0) (x.val + 1) _ x.val.succ_pos h
  · exact hfaults (s.ea 0) (x.val + 1) _ x.val.succ_pos h

end

section
/-! The decoder and the encoder (30_encoding.md): the fields of a word, the two inverse directions, and the opcode
table. -/

open Sys2Proof Sys2Proof.Machine

namespace Sys2Proof

/-! ### The fields of an encoded word -/

@[simp] theorem toFin_regBits (x : Reg) : (regBits x).toFin = x := by
  simp [regBits]

@[simp] theorem regBits_toFin (b : BitVec 4) : regBits b.toFin = b := by
  simp [regBits]

section
variable (m n : BitVec 4) (nnn : BitVec 12) (nn : Byte) (x y : Reg)

@[simp] theorem major_encodeNNN : major (encodeNNN m nnn) = m.toNat :=
  congrArg BitVec.toNat BitVec.extractLsb'_append_eq_left

@[simp] theorem fieldNNN_encodeNNN : fieldNNN (encodeNNN m nnn) = nnn := BitVec.extractLsb'_append_eq_right

@[simp] theorem major_encodeXNN : major (encodeXNN m x nn) = m.toNat := major_encodeNNN m _

@[simp] theorem fieldX_encodeXNN : fieldX (encodeXNN m x nn) = x := by
  rw [fieldX, encodeXNN, BitVec.extractLsb'_append_eq_of_add_le (by decide), BitVec.extractLsb'_append_eq_left,
    toFin_regBits]

@[simp] theorem fieldNN_encodeXNN : fieldNN (encodeXNN m x nn) = nn := by
  rw [fieldNN, encodeXNN, BitVec.extractLsb'_append_eq_of_add_le (by decide), BitVec.extractLsb'_append_eq_right]

@[simp] theorem major_encodeXYN : major (encodeXYN m x y n) = m.toNat := major_encodeNNN m _

@[simp] theorem fieldX_encodeXYN : fieldX (encodeXYN m x y n) = x := fieldX_encodeXNN m _ x

@[simp] theorem fieldY_encodeXYN : fieldY (encodeXYN m x y n) = y := by
  rw [fieldY, encodeXYN, BitVec.extractLsb'_append_eq_of_add_le (by decide),
    BitVec.extractLsb'_append_eq_of_add_le (by decide), BitVec.extractLsb'_append_eq_left, toFin_regBits]

@[simp] theorem fieldN_encodeXYN : fieldN (encodeXYN m x y n) = n := by
  rw [fieldN, encodeXYN, BitVec.extractLsb'_append_eq_of_add_le (by decide),
    BitVec.extractLsb'_append_eq_of_add_le (by decide), BitVec.extractLsb'_append_eq_right]

end

/-! ### A word from its fields -/

theorem major_append_fieldNNN (op : Word) : op.extractLsb' 12 4 ++ fieldNNN op = op :=
  (BitVec.extractLsb'_append_extractLsb'_eq_extractLsb' rfl).trans BitVec.extractLsb'_eq_self

theorem fieldX_append_fieldNN (op : Word) : regBits (fieldX op) ++ fieldNN op = fieldNNN op := by
  rw [fieldX, regBits_toFin]
  exact BitVec.extractLsb'_append_extractLsb'_eq_extractLsb' rfl

theorem fieldY_append_fieldN (op : Word) : regBits (fieldY op) ++ fieldN op = fieldNN op := by
  rw [fieldY, regBits_toFin]
  exact BitVec.extractLsb'_append_extractLsb'_eq_extractLsb' rfl

section
variable {op : Word} {m n : BitVec 4} {nn : Byte}

theorem encodeNNN_fields (hm : major op = m.toNat) : encodeNNN m (fieldNNN op) = op := by
  rw [encodeNNN, ← BitVec.eq_of_toNat_eq hm]
  exact major_append_fieldNNN op

theorem encodeXNN_fields (hm : major op = m.toNat) (hnn : (fieldNN op).toNat = nn.toNat) :
    encodeXNN m (fieldX op) nn = op := by
  rw [encodeXNN, ← BitVec.eq_of_toNat_eq hnn, fieldX_append_fieldNN]
  exact encodeNNN_fields hm

theorem encodeXYN_fields (hm : major op = m.toNat) (hn : (fieldN op).toNat = n.toNat) :
    encodeXYN m (fieldX op) (fieldY op) n = op := by
  rw [encodeXYN, ← BitVec.eq_of_toNat_eq hn, fieldY_append_fieldN]
  exact encodeXNN_fields hm rfl

end

/-! ### Decoding an encoded instruction -/

/-- Major 0: one of the three taken addresses, or a well-formed SYS (R76, R82). -/
theorem decodeMajor0_cases (op : Word) :
    (fieldNNN op = 0x0E0#12 ∧ decodeMajor0 op = .cls) ∨ (fieldNNN op = 0x0EE#12 ∧ decodeMajor0 op = .ret) ∨
      (fieldNNN op = 0x0FD#12 ∧ decodeMajor0 op = .exit) ∨
      ((Instr.sys (fieldNNN op)).wellFormed = true ∧ decodeMajor0 op = .sys (fieldNNN op)) := by
  unfold decodeMajor0
  split
  case h_1 h => exact .inl ⟨BitVec.eq_of_toNat_eq h, rfl⟩
  case h_2 h => exact .inr (.inl ⟨BitVec.eq_of_toNat_eq h, rfl⟩)
  case h_3 h => exact .inr (.inr (.inl ⟨BitVec.eq_of_toNat_eq h, rfl⟩))
  case h_4 hcls hret hexit =>
    refine .inr (.inr (.inr ⟨?_, rfl⟩))
    simpa [Instr.wellFormed, sysTaken, ← BitVec.toNat_inj] using And.intro hcls ⟨hret, hexit⟩

theorem decodeMajor0_encodeNNN {m : BitVec 4} {nnn : BitVec 12} (h : (Instr.sys nnn).wellFormed = true) :
    decodeMajor0 (encodeNNN m nnn) = .sys nnn := by
  have hc := decodeMajor0_cases (encodeNNN m nnn)
  rw [fieldNNN_encodeNNN] at hc
  obtain ⟨rfl, -⟩ | ⟨rfl, -⟩ | ⟨rfl, -⟩ | ⟨-, hsys⟩ := hc
  case inr.inr.inr => exact hsys
  all_goals exact absurd h (by decide)

/-- The encoder's fields select the arm of the decoder that reads them back. -/
theorem decode_encode {i : Instr} (h : i.wellFormed = true) : decode (encode i) = .ok i := by
  cases i with
  | sys => simp [encode, decode, decodeMajor0_encodeNNN h]
  | cls | ret | exit => rfl
  | jp | call | ldI | jpV0 | seImm | sneImm | ldImm | addImm | rnd | seReg | sneReg | drw => simp [encode, decode]
  | ldReg | orReg | andReg | xorReg | addReg | sub | shr | subn | shl => simp [encode, decode, decodeMajor8]
  | skp | sknp => simp [encode, decode, decodeMajorE]
  | ldVDt | ldK | ldDtV | ldStV | addI | ldF | ldHf | ldB | ldMemFromV | ldVFromMem =>
    simp [encode, decode, decodeMajorF]

/-! ### Encoding a decoded word -/

section
variable {op : Word} {i : Instr}

/-- The instruction is well formed and the word is its encoding. -/
def IsWordOf (op : Word) (i : Instr) : Prop := i.wellFormed = true ∧ encode i = op

theorem isWordOf_decodeMajor0 (hm : major op = 0x0) : IsWordOf op (decodeMajor0 op) := by
  have he : encodeNNN 0x0 (fieldNNN op) = op := encodeNNN_fields hm
  obtain ⟨hn, hd⟩ | ⟨hn, hd⟩ | ⟨hn, hd⟩ | ⟨hw, hd⟩ := decodeMajor0_cases op <;> rw [hd]
  case inr.inr.inr => exact ⟨hw, he⟩
  all_goals
    rw [hn] at he
    exact ⟨rfl, he⟩

theorem isWordOf_of_decodeMajor8 (hm : major op = 0x8) (h : decodeMajor8 op = .ok i) : IsWordOf op i := by
  unfold decodeMajor8 at h
  split at h
  case h_10 => cases h
  all_goals
    rename_i hn
    cases h
    exact ⟨rfl, encodeXYN_fields hm hn⟩

theorem isWordOf_of_decodeMajorE (hm : major op = 0xE) (h : decodeMajorE op = .ok i) : IsWordOf op i := by
  unfold decodeMajorE at h
  split at h
  case h_3 => cases h
  all_goals
    rename_i hnn
    cases h
    exact ⟨rfl, encodeXNN_fields hm hnn⟩

theorem isWordOf_of_decodeMajorF (hm : major op = 0xF) (h : decodeMajorF op = .ok i) : IsWordOf op i := by
  unfold decodeMajorF at h
  split at h
  case h_11 => cases h
  all_goals
    rename_i hnn
    cases h
    exact ⟨rfl, encodeXNN_fields hm hnn⟩

theorem isWordOf_of_decode (h : decode op = .ok i) : IsWordOf op i := by
  unfold decode at h
  split at h
  case h_1 hm => exact Except.ok.inj h ▸ isWordOf_decodeMajor0 hm
  case h_9 hm => exact isWordOf_of_decodeMajor8 hm h
  case h_15 hm => exact isWordOf_of_decodeMajorE hm h
  case h_16 =>
    have hlt : major op < 16 := BitVec.isLt _
    have hm : major op = 0xF := by grind
    exact isWordOf_of_decodeMajorF hm h
  case h_2 hm | h_3 hm | h_11 hm | h_12 hm =>
    cases h
    exact ⟨rfl, encodeNNN_fields hm⟩
  case h_4 hm | h_5 hm | h_7 hm | h_8 hm | h_13 hm =>
    cases h
    exact ⟨rfl, encodeXNN_fields hm rfl⟩
  case h_14 hm =>
    cases h
    exact ⟨rfl, encodeXYN_fields hm rfl⟩
  case h_6 hm | h_10 hm =>
    split_ifs at h with hn
    cases h
    exact ⟨rfl, encodeXYN_fields hm (congrArg BitVec.toNat hn)⟩

end

/-! ### The opcode table -/

theorem Instr.row_mem_opcodeTable (i : Instr) : i.row ∈ opcodeTable := by
  cases i <;> simp [opcodeTable, tableInstrs, Instr.row]

/-- Where the mask of a row that covers a word keeps a whole field, the word has the row's field. -/
theorem Row.extractLsb'_of_covers {r : Row} {op : Word} (h : r.covers op = true) {start len : Nat}
    (hmask : r.mask.extractLsb' start len = BitVec.allOnes len) :
    op.extractLsb' start len = r.pattern.extractLsb' start len := by
  have hp : op &&& r.mask = r.pattern := by simpa [Row.covers] using h
  rw [← hp, BitVec.extractLsb'_and, hmask, BitVec.and_allOnes]

section
variable {op : Word}

theorem Instr.major_of_covers {j : Instr} (h : j.row.covers op = true) : major op = (j.row.pattern >>> 12).toNat := by
  have hmask : j.row.mask.extractLsb' 12 4 = BitVec.allOnes 4 := by cases j <;> simp [Instr.row]
  have hlt := j.row.pattern.isLt
  rw [major, Row.extractLsb'_of_covers h hmask, BitVec.extractLsb'_toNat, BitVec.toNat_ushiftRight,
    Nat.shiftRight_eq_div_pow]
  omega

theorem Row.fieldN_of_covers {r : Row} (h : r.covers op = true) (hmask : r.mask = 0xF00F) :
    fieldN op = r.pattern.setWidth 4 :=
  (Row.extractLsb'_of_covers h (by rw [hmask]; rfl)).trans (BitVec.setWidth_eq_extractLsb' (by decide)).symm

theorem Row.fieldNN_of_covers {r : Row} (h : r.covers op = true) (hmask : r.mask = 0xF0FF) :
    fieldNN op = r.pattern.setWidth 8 :=
  (Row.extractLsb'_of_covers h (by rw [hmask]; rfl)).trans (BitVec.setWidth_eq_extractLsb' (by decide)).symm

/-- A row that keeps every bit covers its pattern alone. -/
theorem Row.eq_of_covers {r : Row} (h : r.covers op = true) (hmask : r.mask = 0xFFFF) : op = r.pattern := by
  have hp : op &&& BitVec.allOnes 16 = r.pattern := by simpa [Row.covers, hmask] using h
  rwa [BitVec.and_allOnes] at hp

/-- The bits that a row of priority 1 fixes are the fields that select its arm of the decoder (R74). -/
theorem decode_row_of_covers {j : Instr} (h : j.row.covers op = true) (hj : j.row.priority = 1) :
    (decode op).map Instr.row = .ok j.row := by
  have hm := Instr.major_of_covers h
  cases j with
  | sys => cases hj
  | cls | ret | exit =>
    rw [Row.eq_of_covers h rfl]
    rfl
  | jp | call | ldI | jpV0 | seImm | sneImm | ldImm | addImm | rnd | drw =>
    simp [decode, hm, Instr.row, Except.map]
  | seReg | sneReg | ldReg | orReg | andReg | xorReg | addReg | sub | shr | subn | shl =>
    have hn := Row.fieldN_of_covers h rfl
    simp [decode, decodeMajor8, hm, hn, Instr.row, Except.map]
  | skp | sknp | ldVDt | ldK | ldDtV | ldStV | addI | ldF | ldHf | ldB | ldMemFromV | ldVFromMem =>
    have hnn := Row.fieldNN_of_covers h rfl
    simp [decode, decodeMajorE, decodeMajorF, hm, hnn, Instr.row, Except.map]

/-- A word of a row of the table decodes, to an instruction of that row or of one that goes before it. -/
theorem exists_decode_of_covers {j : Instr} (h : j.row.covers op = true) :
    ∃ i, decode op = .ok i ∧ (i.row = j.row ∨ i.row.priority < j.row.priority) := by
  by_cases hj : j.row.priority = 1
  · have hrow := decode_row_of_covers h hj
    cases hd : decode op with
    | ok i =>
      rw [hd] at hrow
      exact ⟨i, rfl, .inl (Except.ok.inj hrow)⟩
    | error e =>
      rw [hd] at hrow
      cases hrow
  · cases j with
    | sys nnn =>
      have hm := Instr.major_of_covers h
      refine ⟨decodeMajor0 op, by simp [decode, hm, Instr.row], ?_⟩
      obtain ⟨-, hd⟩ | ⟨-, hd⟩ | ⟨-, hd⟩ | ⟨-, hd⟩ := decodeMajor0_cases op <;> simp [hd, Instr.row]
    | _ => exact absurd rfl hj

end

/-- The word of every instruction is of its own row. -/
theorem Laws.MatchesRow.all : (i : Instr) → MatchesRow.Statement i
  | .sys a => sys a | .cls => cls | .ret => ret | .exit => exit | .jp a => jp a | .call a => call a
  | .seImm x b => seImm x b | .sneImm x b => sneImm x b | .seReg x y => seReg x y
  | .ldImm x b => ldImm x b | .addImm x b => addImm x b | .ldReg x y => ldReg x y | .orReg x y => orReg x y
  | .andReg x y => andReg x y | .xorReg x y => xorReg x y | .addReg x y => addReg x y | .sub x y => sub x y
  | .shr x y => shr x y | .subn x y => subn x y | .shl x y => shl x y | .sneReg x y => sneReg x y
  | .ldI a => ldI a | .jpV0 a => jpV0 a | .rnd x b => rnd x b | .drw x y n => drw x y n
  | .skp x => skp x | .sknp x => sknp x | .ldVDt x => ldVDt x | .ldK x => ldK x | .ldDtV x => ldDtV x
  | .ldStV x => ldStV x | .addI x => addI x | .ldF x => ldF x | .ldHf x => ldHf x | .ldB x => ldB x
  | .ldMemFromV x => ldMemFromV x | .ldVFromMem x => ldVFromMem x

/-! ### The instruction step -/

namespace Machine

variable {s : State} {base count : Nat}

theorem State.access_of_no_fault (k : Result) (h : s.memFaultAt base count = none) : s.access base count k = k := by
  simp [access, h]

/-- A fetch that raises no MemFault is followed by the word it fetched (R73). -/
theorem instrStep_of_no_fault (h : s.memFaultAt s.pc.toNat 2 = none) :
    instrStep s = s.runWord (s.fetch16 s.pc.toNat) :=
  State.access_of_no_fault _ h

end Machine
end Sys2Proof

/-- Settles O1: each format gives back its fields, and the fields select the arm of the decoder. -/
theorem encodeThenDecodeIsIdentity : Obligations.EncodeThenDecodeIsIdentity := by
  unfold Obligations.EncodeThenDecodeIsIdentity
  intro i
  exact decode_encode

/-- Settles O2: each arm of the decoder keeps every field of the word. -/
theorem decodedWordReencodes : Obligations.DecodedWordReencodes := by
  unfold Obligations.DecodedWordReencodes
  intro op i
  exact isWordOf_of_decode

/-- Settles O3: a decoded word is the word of its instruction, hence of its row; and a row that covers the word selects
the arm of the decoder that answers it, unless the word is one of the three that go before SYS. -/
theorem decodeFollowsTable : Obligations.DecodeFollowsTable := by
  unfold Obligations.DecodeFollowsTable
  intro op
  cases hd : decode op with
  | ok i =>
    obtain ⟨-, rfl⟩ := isWordOf_of_decode hd
    refine ⟨i.row_mem_opcodeTable, Laws.MatchesRow.all i, fun r hr hc hne => ?_⟩
    obtain ⟨j, -, rfl⟩ := List.mem_map.1 hr
    obtain ⟨i', hi, hrow⟩ := exists_decode_of_covers hc
    obtain rfl : i = i' := Except.ok.inj (hd.symm.trans hi)
    exact hrow.resolve_left hne.symm
  | error e =>
    intro r hr
    obtain ⟨j, -, rfl⟩ := List.mem_map.1 hr
    by_contra hc
    obtain ⟨i, hi, -⟩ := exists_decode_of_covers (Bool.eq_true_of_not_eq_false hc)
    cases hd.symm.trans hi

/-- Settles O5: seven closed computations. -/
theorem sampleWordsDecode : Obligations.SampleWordsDecode := by
  unfold Obligations.SampleWordsDecode
  decide

/-- Settles O7: the step runs the fetched word, by its decoding. -/
theorem instructionStepRunsDecoded : Obligations.InstructionStepRunsDecoded := by
  unfold Obligations.InstructionStepRunsDecoded
  intro s hfetch
  rw [instrStep_of_no_fault hfetch]
  exact ⟨fun i => State.runWord_of_decode, fun e => State.runWord_unknown⟩

end

section
/-! Drawing in closed form (40_display.md section 3): which pixels a sprite toggles, which cells it marks, and when it
erases a lit pixel. -/

open Sys2Proof Sys2Proof.Machine

namespace Sys2Proof.Machine

/-! ### Distances on the wrapped screen -/

/-- How far column `px` is to the right of column `x0`, around the screen (R104). -/
def colDist (x0 : Nat) (px : Fin 64) : Nat := (px.val + 64 - x0 % 64) % 64

/-- How far row `py` is below row `y0`, around the screen (R104). -/
def rowDist (y0 : Nat) (py : Fin 32) : Nat := (py.val + 32 - y0 % 32) % 32

theorem eq_wrapX_iff {x0 j : Nat} {px : Fin 64} (hj : j < 64) : px = wrapX (x0 + j) ↔ colDist x0 px = j := by
  rw [Fin.ext_iff, wrapX_val, colDist]
  omega

theorem eq_wrapY_iff {y0 k : Nat} {py : Fin 32} (hk : k < 32) : py = wrapY (y0 + k) ↔ rowDist y0 py = k := by
  rw [Fin.ext_iff, wrapY_val, rowDist]
  omega

theorem colDist_wrapX {x0 j : Nat} (hj : j < 64) : colDist x0 (wrapX (x0 + j)) = j := (eq_wrapX_iff hj).1 rfl

/-- One more column to the right: the columns nearer than `k`, or the one at distance `k`. -/
theorem exists_colDist_lt_succ {x0 k : Nat} {P : Fin 64 → Prop} (hk : k < 64) :
    (∃ px, colDist x0 px < k + 1 ∧ P px) ↔ (∃ px, colDist x0 px < k ∧ P px) ∨ P (wrapX (x0 + k)) := by
  simp only [Nat.lt_succ_iff_lt_or_eq, or_and_right, exists_or, ← eq_wrapX_iff hk, exists_eq_left]

/-! ### One sprite row -/

/-- The leftmost `k` bits of a sprite row; all eight are `drawRow`. -/
def drawCols (x0 : Nat) (y : Fin 32) (b : Byte) (k : Nat) (c : Framebuffer × Bool) : Framebuffer × Bool :=
  (List.range k).foldl (fun c j => drawBit (wrapX (x0 + j)) y (b.getMsbD j) c) c

section
variable {x0 : Nat} {y : Fin 32} {b : Byte} {k : Nat} {c : Framebuffer × Bool}

theorem drawCols_succ :
    drawCols x0 y b (k + 1) c = drawBit (wrapX (x0 + k)) y (b.getMsbD k) (drawCols x0 y b k c) := by
  simp [drawCols, List.range_succ]

theorem drawRow_eq_drawCols : drawRow x0 y b c = drawCols x0 y b 8 c := rfl

theorem pixel_drawCols (hk : k ≤ 64) (px : Fin 64) (py : Fin 32) :
    pixel (drawCols x0 y b k c).1 px py =
      (pixel c.1 px py ^^ (decide (py = y ∧ colDist x0 px < k) && b.getMsbD (colDist x0 px))) := by
  induction k with
  | zero => simp [drawCols]
  | succ k ih =>
    rw [drawCols_succ, drawBit_fst, ih (by omega)]
    simp only [eq_wrapX_iff (show k < 64 by omega)]
    obtain hlt | heq | hgt := lt_trichotomy (colDist x0 px) k
    · simp [hlt, hlt.ne, Nat.lt_succ_of_lt hlt]
    · simp [heq, Bool.and_comm]
    · simp [hgt.not_gt, hgt.ne', Nat.not_lt.2 (Nat.succ_le_of_lt hgt)]

/-- No column is drawn twice, so each bit meets the pixel that was there before the row. -/
theorem drawCols_snd_iff (hk : k ≤ 64) :
    (drawCols x0 y b k c).2 = true ↔
      c.2 = true ∨ ∃ px, colDist x0 px < k ∧ b.getMsbD (colDist x0 px) = true ∧ pixel c.1 px y = true := by
  induction k with
  | zero => simp [drawCols]
  | succ k ih =>
    have hlt : k < 64 := hk
    have hpixel : pixel (drawCols x0 y b k c).1 (wrapX (x0 + k)) y = pixel c.1 (wrapX (x0 + k)) y := by
      simp [pixel_drawCols hlt.le, colDist_wrapX hlt]
    rw [drawCols_succ, drawBit_snd, hpixel, exists_colDist_lt_succ hlt, colDist_wrapX hlt, ← or_assoc,
      ← ih hlt.le, Bool.or_eq_true, Bool.and_eq_true]

theorem colDist_lt_of_getMsbD {px : Fin 64} (h : b.getMsbD (colDist x0 px) = true) : colDist x0 px < 8 :=
  BitVec.lt_of_getMsbD h

theorem pixel_drawRow (px : Fin 64) (py : Fin 32) :
    pixel (drawRow x0 y b c).1 px py = (pixel c.1 px py ^^ (decide (py = y) && b.getMsbD (colDist x0 px))) := by
  rw [drawRow_eq_drawCols, pixel_drawCols (by decide)]
  cases hb : b.getMsbD (colDist x0 px) with
  | false => simp
  | true => simp [colDist_lt_of_getMsbD hb]

theorem drawRow_snd_iff :
    (drawRow x0 y b c).2 = true ↔
      c.2 = true ∨ ∃ px, b.getMsbD (colDist x0 px) = true ∧ pixel c.1 px y = true := by
  rw [drawRow_eq_drawCols, drawCols_snd_iff (by decide)]
  exact or_congr_right (exists_congr fun px => and_iff_right_of_imp fun h => colDist_lt_of_getMsbD h.1)

end

/-! ### The whole sprite -/

/-- The bit that a sprite at column `x0`, row `y0` puts on a pixel: a row past the last byte has no bit. -/
def spriteAt (x0 y0 : Nat) (bytes : List Byte) (px : Fin 64) (py : Fin 32) : Bool :=
  (bytes.getD (rowDist y0 py) 0).getMsbD (colDist x0 px)

section
variable {x0 y0 : Nat} {b : Byte} {bytes : List Byte} {px : Fin 64} {py : Fin 32}

theorem spriteAt_of_le (h : bytes.length ≤ rowDist y0 py) : spriteAt x0 y0 bytes px py = false := by
  rw [spriteAt, List.getD_eq_default _ _ h]
  exact BitVec.getMsbD_zero

/-- A sprite of at most 32 rows: the bit on a pixel is in the one row that lands on it. -/
theorem spriteAt_iff (hlen : bytes.length ≤ 32) :
    spriteAt x0 y0 bytes px py = true ↔
      ∃ (k : Nat) (hk : k < bytes.length), py = wrapY (y0 + k) ∧ bytes[k].getMsbD (colDist x0 px) = true := by
  constructor
  · intro h
    have hk : rowDist y0 py < bytes.length := by
      by_contra hout
      simp [spriteAt_of_le (not_lt.1 hout)] at h
    rw [spriteAt, List.getD_eq_getElem _ _ hk] at h
    exact ⟨_, hk, (eq_wrapY_iff (by omega)).2 rfl, h⟩
  · rintro ⟨k, hk, hrow, hbit⟩
    have hdist : rowDist y0 py = k := (eq_wrapY_iff (by omega)).1 hrow
    rwa [spriteAt, hdist, List.getD_eq_getElem _ _ hk]

/-- The rows below the first end before they come around to it. -/
theorem spriteAt_row_above (hlen : bytes.length < 32) : spriteAt x0 (y0 + 1) bytes px (wrapY y0) = false :=
  spriteAt_of_le (by rw [rowDist, wrapY_val]; omega)

/-- The first byte is the row `y0`, the others the sprite that starts one row below. -/
theorem spriteAt_cons (px : Fin 64) (py : Fin 32) :
    spriteAt x0 y0 (b :: bytes) px py =
      if py = wrapY y0 then b.getMsbD (colDist x0 px) else spriteAt x0 (y0 + 1) bytes px py := by
  have hfirst : py = wrapY y0 ↔ rowDist y0 py = 0 := eq_wrapY_iff (k := 0) (by decide)
  unfold spriteAt
  cases hd : rowDist y0 py with
  | zero => simp [hfirst.2 hd]
  | succ d =>
    have hnext : rowDist (y0 + 1) py = d := by unfold rowDist at hd ⊢; omega
    have hrow : py ≠ wrapY y0 := fun e => by simp [hfirst.1 e] at hd
    simp [hrow, hnext]

end

theorem pixel_drawRows (x0 : Nat) (px : Fin 64) (py : Fin 32) :
    ∀ (bytes : List Byte) (y0 : Nat) (c : Framebuffer × Bool), bytes.length ≤ 32 →
      pixel (drawRows x0 y0 bytes c).1 px py = (pixel c.1 px py ^^ spriteAt x0 y0 bytes px py)
  | [], _, _, _ => by simp [drawRows, spriteAt_of_le]
  | b :: rest, y0, c, hlen => by
    rw [drawRows, pixel_drawRows x0 px py rest _ _ (Nat.le_of_succ_le hlen), pixel_drawRow, spriteAt_cons]
    by_cases hy : py = wrapY y0
    · simp [hy, spriteAt_row_above hlen]
    · simp [hy]

/-- No pixel is drawn twice, so each sprite bit meets the pixel that was there before the sprite. -/
theorem drawRows_snd_iff (x0 : Nat) :
    ∀ (bytes : List Byte) (y0 : Nat) (c : Framebuffer × Bool), bytes.length ≤ 32 →
      ((drawRows x0 y0 bytes c).2 = true ↔
        c.2 = true ∨ ∃ py px, spriteAt x0 y0 bytes px py = true ∧ pixel c.1 px py = true)
  | [], _, _, _ => by simp [drawRows, spriteAt_of_le]
  | b :: rest, y0, c, hlen => by
    rw [drawRows, drawRows_snd_iff x0 rest _ _ (Nat.le_of_succ_le hlen), drawRow_snd_iff, or_assoc]
    refine or_congr_right ?_
    -- The first row meets row `y0` of the screen, the others every other row, which the first left alone.
    have hrest (py : Fin 32) :
        (∃ px, spriteAt x0 (y0 + 1) rest px py = true ∧ pixel (drawRow x0 (wrapY y0) b c).1 px py = true) ↔
          py ≠ wrapY y0 ∧ ∃ px, spriteAt x0 y0 (b :: rest) px py = true ∧ pixel c.1 px py = true := by
      by_cases hy : py = wrapY y0
      · simp [hy, spriteAt_row_above hlen]
      · simp [hy, pixel_drawRow, spriteAt_cons]
    have hfirst (px : Fin 64) : b.getMsbD (colDist x0 px) = spriteAt x0 y0 (b :: rest) px (wrapY y0) := by
      rw [spriteAt_cons, if_pos rfl]
    simp only [hrest, hfirst]
    constructor
    · rintro (h | ⟨py, -, h⟩) <;> exact ⟨_, h⟩
    · rintro ⟨py, h⟩
      by_cases hy : py = wrapY y0
      · exact .inl (hy ▸ h)
      · exact .inr ⟨py, hy, h⟩

/-! ### Marking cells -/

/-- The cells of its row that a sprite row marks under each DIRTY_POLICY (R106). -/
def RowMarks (policy : DirtyPolicy) (x0 : Nat) (b : Byte) (c : Fin 8) : Prop :=
  match policy with
  | .toggled => ∃ px, b.getMsbD (colDist x0 px) = true ∧ c = cellOf px
  | .spanned => c = cellOf (wrapX x0) ∨ c = cellOf (wrapX (x0 + 7))

/-- The eight columns of a sprite row lie in the cell of its first or of its last column. -/
theorem cellOf_of_colDist_lt {x0 : Nat} {px : Fin 64} (h : colDist x0 px < 8) :
    cellOf px = cellOf (wrapX x0) ∨ cellOf px = cellOf (wrapX (x0 + 7)) := by
  simp only [cellOf, Fin.mk.injEq, wrapX_val]
  unfold colDist at h
  omega

/-- Either policy marks the cell of every pixel that the row toggles. -/
theorem rowMarks_cellOf {policy : DirtyPolicy} {x0 : Nat} {b : Byte} {px : Fin 64}
    (h : b.getMsbD (colDist x0 px) = true) : RowMarks policy x0 b (cellOf px) := by
  cases policy with
  | toggled => exact ⟨px, h, rfl⟩
  | spanned => exact cellOf_of_colDist_lt (colDist_lt_of_getMsbD h)

/-- The cells of the leftmost `k` bits of a sprite row marked; all eight are `markRow` under `toggled`. -/
def markCols (x0 : Nat) (y : Fin 32) (b : Byte) (k : Nat) (d : DirtyMatrix) : DirtyMatrix :=
  (List.range k).foldl (fun d j => if b.getMsbD j then markCell d y (cellOf (wrapX (x0 + j))) else d) d

section
variable {x0 y0 : Nat} {y r : Fin 32} {b : Byte} {c : Fin 8} {d : DirtyMatrix} {policy : DirtyPolicy}

theorem dirtyCell_markCols_iff {k : Nat} (hk : k ≤ 64) :
    dirtyCell (markCols x0 y b k d) r c = true ↔
      dirtyCell d r c = true ∨
        r = y ∧ ∃ px, colDist x0 px < k ∧ b.getMsbD (colDist x0 px) = true ∧ c = cellOf px := by
  induction k with
  | zero => simp [markCols]
  | succ k ih =>
    have hlt : k < 64 := hk
    have hlast : dirtyCell (markCols x0 y b (k + 1) d) r c = true ↔
        dirtyCell (markCols x0 y b k d) r c = true ∨
          r = y ∧ b.getMsbD k = true ∧ c = cellOf (wrapX (x0 + k)) := by
      cases hb : b.getMsbD k <;> simp [markCols, List.range_succ, hb, dirtyCell_markCell]
    rw [hlast, ih hlt.le, exists_colDist_lt_succ hlt, colDist_wrapX hlt, and_or_left, or_assoc]

theorem dirtyCell_markRow_iff :
    dirtyCell (markRow policy x0 y b d) r c = true ↔ dirtyCell d r c = true ∨ r = y ∧ RowMarks policy x0 b c := by
  cases policy with
  | toggled =>
    refine (dirtyCell_markCols_iff (k := 8) (by decide)).trans ?_
    refine or_congr_right (and_congr_right fun _ => exists_congr fun px => and_iff_right_of_imp fun h => ?_)
    exact colDist_lt_of_getMsbD h.1
  | spanned => simp [markRow, RowMarks, dirtyCell_markCell, or_assoc, and_or_left]

theorem dirtyCell_markRows_iff :
    ∀ {bytes : List Byte} {y0 : Nat} {d : DirtyMatrix},
      (dirtyCell (markRows policy x0 y0 bytes d) r c = true ↔
        dirtyCell d r c = true ∨
          ∃ (k : Nat) (hk : k < bytes.length), r = wrapY (y0 + k) ∧ RowMarks policy x0 bytes[k] c)
  | [], _, _ => by simp [markRows]
  | b :: rest, y0, d => by
    rw [markRows, dirtyCell_markRows_iff, dirtyCell_markRow_iff, or_assoc]
    refine or_congr_right (Iff.trans ?_ Nat.or_exists_add_one)
    simp [Nat.add_assoc, Nat.add_comm 1]

/-- Under `toggled` the rows mark the cells of the pixels that the sprite toggles. -/
theorem exists_rowMarks_toggled_iff {bytes : List Byte} (hlen : bytes.length ≤ 32) :
    (∃ (k : Nat) (hk : k < bytes.length), r = wrapY (y0 + k) ∧ RowMarks .toggled x0 bytes[k] c) ↔
      ∃ px, cellOf px = c ∧ spriteAt x0 y0 bytes px r = true := by
  simp only [spriteAt_iff hlen]
  constructor
  · rintro ⟨k, hk, hrow, px, hbit, hc⟩
    exact ⟨px, hc.symm, k, hk, hrow, hbit⟩
  · rintro ⟨px, hc, k, hk, hrow, hbit⟩
    exact ⟨k, hk, hrow, px, hbit, hc.symm⟩

/-- Under `spanned` every row marks the same one or two columns of cells. -/
theorem exists_rowMarks_spanned_iff {bytes : List Byte} :
    (∃ (k : Nat) (hk : k < bytes.length), r = wrapY (y0 + k) ∧ RowMarks .spanned x0 bytes[k] c) ↔
      (∃ k < bytes.length, r = wrapY (y0 + k)) ∧ (c = cellOf (wrapX x0) ∨ c = cellOf (wrapX (x0 + 7))) := by
  simp only [RowMarks, ← exists_and_right, exists_prop, and_assoc]

end

/-! ### DRW -/

section
variable (s : State) (x y : Reg)

@[simp] theorem State.bytesAtI_length (n : Nat) : (s.bytesAtI n).length = n := by
  simp [bytesAtI]

/-- The closed form of the statements is the sprite of the bytes at I. -/
theorem spriteAt_bytesAtI (n : Nat) (px : Fin 64) (py : Fin 32) :
    spriteAt ((s.reg x).toNat % 64) ((s.reg y).toNat % 32) (s.bytesAtI n) px py = s.spriteBit x y n px py := by
  have hcol : colDist ((s.reg x).toNat % 64) px = (px.val + 64 - s.v[x].toNat % 64) % 64 := by
    rw [colDist, Nat.mod_mod, State.reg]
  have hrow : rowDist ((s.reg y).toNat % 32) py = (py.val + 32 - s.v[y].toNat % 32) % 32 := by
    rw [rowDist, Nat.mod_mod, State.reg]
  unfold spriteAt State.spriteBit
  rw [hcol, hrow]
  generalize (px.val + 64 - s.v[x].toNat % 64) % 64 = dx, (py.val + 32 - s.v[y].toNat % 32) % 32 = dy
  by_cases hdy : dy < n
  · simp [State.bytesAtI, State.read, State.ea, ix, memSize, hdy, BitVec.getMsbD_eq_getLsbD]
  · simp [State.bytesAtI, hdy]

theorem pixel_drawSprite {n : Nat} (hn : n ≤ 32) (px : Fin 64) (py : Fin 32) :
    pixel (s.drawSprite x y (s.bytesAtI n)).fb px py = (pixel s.fb px py ^^ s.spriteBit x y n px py) := by
  rw [← spriteAt_bytesAtI]
  exact pixel_drawRows _ px py _ _ _ (by simpa using hn)

theorem drawSprite_v {n : Nat} (hn : n ≤ 32) :
    (s.drawSprite x y (s.bytesAtI n)).v =
      s.v.set 15 (if ∃ px py, s.spriteBit x y n px py = true ∧ pixel s.fb px py = true then 1 else 0) := by
  have herased := drawRows_snd_iff ((s.reg x).toNat % 64) (s.bytesAtI n) ((s.reg y).toNat % 32) (s.fb, false)
    (by simpa using hn)
  simp only [spriteAt_bytesAtI, Bool.false_eq_true, false_or] at herased
  rw [exists_comm] at herased
  simp only [← herased]
  rfl

theorem dirtyCell_drawSprite_iff {bytes : List Byte} {r : Fin 32} {c : Fin 8} :
    dirtyCell (s.drawSprite x y bytes).dirty r c = true ↔
      dirtyCell s.dirty r c = true ∨ ∃ (k : Nat) (hk : k < bytes.length),
        r = wrapY ((s.reg y).toNat % 32 + k) ∧
          RowMarks s.cfg.dirtyPolicy ((s.reg x).toNat % 64) bytes[k] c :=
  dirtyCell_markRows_iff

variable {s x y} {n : BitVec 4} {t : State}

theorem eq_of_exec_drw (h : exec (.drw x y n) s = .next t) :
    t = (s.drawSprite x y (s.bytesAtI n.toNat)).advance :=
  eq_of_next (s.next_of_access h)

theorem exec_drw_of_no_fault (h : s.memFaultAt (s.ea 0) n.toNat = none) :
    exec (.drw x y n) s = .next (s.drawSprite x y (s.bytesAtI n.toNat)).advance :=
  s.access_of_no_fault _ h

end

end Sys2Proof.Machine
end

section
/-! The framebuffer and the dirty matrix over instructions and runs (40_display.md). -/

open Sys2Proof Sys2Proof.Machine

namespace Sys2Proof.Machine

/-- A framebuffer is its pixels. -/
theorem framebuffer_eq_of_pixel_eq {f g : Framebuffer} (h : ∀ px py, pixel f px py = pixel g px py) : f = g := by
  refine Vector.ext fun r hr => BitVec.eq_of_getMsbD_eq fun i hi => ?_
  exact h ⟨i, hi⟩ ⟨r, hr⟩

/-- The sprite bits depend on the two coordinate registers, I and memory alone. -/
theorem spriteBit_congr {s t : State} {x y : Reg} (hx : t.v[x] = s.v[x]) (hy : t.v[y] = s.v[y]) (hi : t.i = s.i)
    (hmem : t.mem = s.mem) (n : Nat) (px : Fin 64) (py : Fin 32) :
    t.spriteBit x y n px py = s.spriteBit x y n px py := by
  simp only [State.spriteBit, hx, hy, hi, hmem]

/-- A cell that is clean in `t` was clean in `s` and has kept its pixels. -/
def CleanKept (r : Fin 32) (c : Fin 8) (s t : State) : Prop :=
  dirtyCell t.dirty r c = false →
    dirtyCell s.dirty r c = false ∧ ∀ px, cellOf px = c → pixel s.fb px r = pixel t.fb px r

variable {r : Fin 32} {c : Fin 8} {s t u : State}

theorem CleanKept.trans (hst : CleanKept r c s t) (htu : CleanKept r c t u) : CleanKept r c s u := by
  intro hu
  obtain ⟨ht, hpt⟩ := htu hu
  obtain ⟨hs, hps⟩ := hst ht
  exact ⟨hs, fun px hpx => (hps px hpx).trans (hpt px hpx)⟩

theorem CleanKept.of_eq (hfb : t.fb = s.fb) (hdirty : t.dirty = s.dirty) : CleanKept r c s t := by
  intro h
  exact ⟨hdirty ▸ h, fun px _ => by rw [hfb]⟩

/-- CLS and the initialization of start leave no cell clean. -/
theorem CleanKept.of_allDirty (h : t.dirty = allDirty) : CleanKept r c s t := by
  intro hclean
  rw [h, dirtyCell_allDirty] at hclean
  cases hclean

theorem toNat_le_screen_height (n : BitVec 4) : n.toNat ≤ 32 := by omega

/-- DXYN marks the cell of every pixel it toggles, under either policy. -/
theorem dirtyCell_drawSprite_of_spriteBit {x y : Reg} {n : Nat} (hn : n ≤ 32) {px : Fin 64}
    (h : s.spriteBit x y n px r = true) :
    dirtyCell (s.drawSprite x y (s.bytesAtI n)).dirty r (cellOf px) = true := by
  rw [← spriteAt_bytesAtI, spriteAt_iff (by simpa using hn)] at h
  obtain ⟨k, hk, hrow, hbit⟩ := h
  exact (dirtyCell_drawSprite_iff s x y).2 (.inr ⟨k, hk, hrow, rowMarks_cellOf hbit⟩)

theorem CleanKept.of_drw {x y : Reg} {n : BitVec 4} (h : exec (.drw x y n) s = .next t) : CleanKept r c s t := by
  obtain rfl := eq_of_exec_drw h
  intro hclean
  rw [State.advance_dirty] at hclean
  refine ⟨Bool.eq_false_iff.2 fun hs => ?_, fun px hpx => ?_⟩
  · simp [(dirtyCell_drawSprite_iff s x y).2 (.inl hs)] at hclean
  · have hbit : s.spriteBit x y n.toNat px r = false := by
      refine Bool.eq_false_iff.2 fun hbit => ?_
      have hmarked := dirtyCell_drawSprite_of_spriteBit (toNat_le_screen_height n) hbit
      simp [← hpx, hmarked] at hclean
    rw [State.advance_fb, pixel_drawSprite s x y (toNat_le_screen_height n), hbit, Bool.xor_false]

/-- Only CLS and DXYN write the screen. -/
theorem eq_cls_or_drw_of_screen_ne {i : Instr} (h : exec i s = .next t) (hne : ¬(t.fb = s.fb ∧ t.dirty = s.dirty)) :
    i = .cls ∨ ∃ x y n, i = .drw x y n := by
  obtain ⟨-, -, -, -, -, -, hscreen, -⟩ := otherStateWritersAreListed i s t h
  exact hscreen (not_and_or.1 hne)

theorem inputs_of_exec {i : Instr} (h : exec i s = .next t) : t.inputs = s.inputs := by
  obtain ⟨-, -, -, -, -, -, -, -, -, -, -, hinputs, -⟩ := otherStateWritersAreListed i s t h
  exact hinputs

theorem CleanKept.of_exec {i : Instr} (h : exec i s = .next t) : CleanKept r c s t := by
  by_cases hkept : t.fb = s.fb ∧ t.dirty = s.dirty
  · exact .of_eq hkept.1 hkept.2
  obtain rfl | ⟨x, y, n, rfl⟩ := eq_cls_or_drw_of_screen_ne h hkept
  · exact .of_allDirty (by rw [eq_of_next h]; rfl)
  · exact .of_drw h

/-- `t` comes from `s` without a clear of the cell and without taking an input. -/
structure Tracks (r : Fin 32) (c : Fin 8) (s t : State) : Prop where
  inputs : t.inputs = s.inputs
  clean  : CleanKept r c s t

theorem Tracks.trans (hst : Tracks r c s t) (htu : Tracks r c t u) : Tracks r c s u :=
  ⟨htu.inputs.trans hst.inputs, hst.clean.trans htu.clean⟩

/-- An update that leaves the screen and the queue alone. -/
theorem Tracks.of_eq (hinputs : t.inputs = s.inputs) (hfb : t.fb = s.fb) (hdirty : t.dirty = s.dirty) :
    Tracks r c s t :=
  ⟨hinputs, .of_eq hfb hdirty⟩

theorem Tracks.afterCpu (s : State) (due : Bool) : Tracks r c s (s.afterCpu due) := by
  obtain h | h := s.afterCpu_cases due <;> rw [h] <;> exact .of_eq rfl rfl rfl

theorem Tracks.takePulses (s : State) : Tracks r c s s.takePulses := by
  rw [s.takePulses_eq]
  exact .of_eq rfl rfl rfl

theorem Tracks.of_instrStep (h : instrStep s = .next t) : Tracks r c s t := by
  obtain ⟨i, -, hexec⟩ | ⟨-, -, rfl⟩ := instrStep_cases h
  · exact ⟨inputs_of_exec hexec, .of_exec hexec⟩
  · exact .of_eq rfl rfl rfl

theorem Tracks.of_pump {cpu timer : Bool} (h : pump cpu timer s = .next t) : Tracks r c s t := by
  obtain ⟨-, rfl⟩ | ⟨-, -, rfl⟩ | ⟨-, -, u, hstep, rfl⟩ := pump_cases h
  · exact .of_eq rfl rfl rfl
  · exact (Tracks.takePulses s).trans (.afterCpu _ _)
  · exact (Tracks.takePulses s).trans ((Tracks.of_instrStep hstep).trans (.afterCpu _ _))

theorem Tracks.load (s : State) (bytes : List Byte) : Tracks r c s (s.load bytes).2 := by
  unfold State.load
  split <;> exact .of_eq rfl rfl rfl

theorem Tracks.start (s : State) (hw : Bool) : Tracks r c s (s.start hw).2 := by
  unfold State.start
  split
  · exact .of_eq rfl rfl rfl
  · exact ⟨rfl, .of_allDirty rfl⟩

theorem Tracks.stop (s : State) : Tracks r c s s.stop.2 := by
  unfold State.stop
  split <;> exact .of_eq rfl rfl rfl

/-- A clear of another cell leaves this one dirty or clean, as it was. -/
theorem Tracks.clearDirty {r' : Fin 32} {c' : Fin 8} (h : Input.clearDirty r' c' ≠ .clearDirty r c) :
    Tracks r c s (s.clearDirty r' c') := by
  have hother : ¬(r = r' ∧ c = c') := by
    rintro ⟨rfl, rfl⟩
    exact h rfl
  refine ⟨rfl, fun hclean => ⟨?_, fun _ _ => rfl⟩⟩
  simpa [State.clearDirty, dirtyCell_unmarkCell, hother] using hclean

/-- Every operation of the outside but the clear of the cell. -/
theorem Tracks.of_applyInput {e : Input} (he : e ≠ .clearDirty r c) (h : applyInput e s = .next t) :
    Tracks r c s t := by
  cases e with
  | pump cpu timer => exact .of_pump h
  | load bytes => exact eq_of_next h ▸ .load s bytes
  | start hw => exact eq_of_next h ▸ .start s hw
  | stop => exact eq_of_next h ▸ .stop s
  | clearDirty => exact eq_of_next h ▸ .clearDirty he
  | setKey | resetDraw | cpuPulse | timerPulse => exact eq_of_next h ▸ .of_eq rfl rfl rfl

/-- One step of the block, which takes the first input of the queue. -/
theorem Tracks.of_step (he : ∀ e ∈ s.inputs.head?, e ≠ .clearDirty r c) (h : step s = .next t) :
    Tracks r c { s with inputs := s.inputs.tail } t := by
  rw [← s.nextInput_snd]
  refine .of_applyInput (fun hclear => ?_) h
  unfold State.nextInput at hclear
  split at hclear
  · cases hclear
  · next e rest hin => exact he e (by simp [hin]) hclear

theorem exists_step_of_run_succ {M : Host.Core} {k : Nat} {s t : M.State} (h : M.run (k + 1) s = .next t) :
    ∃ u, M.step s = .next u ∧ M.run k u = .next t := by
  unfold Host.Core.run at h
  split at h
  · next u hstep => exact ⟨u, hstep, h⟩
  all_goals cases h

/-- Over a run the facts of the steps chain. -/
theorem CleanKept.of_run {k : Nat} (hrun : Sys2Proof.core.run k s = .next t)
    (hnone : ∀ e ∈ s.inputs.take k, e ≠ .clearDirty r c) : CleanKept r c s t := by
  induction k generalizing s with
  | zero => exact eq_of_next hrun ▸ .of_eq rfl rfl
  | succ k ih =>
    obtain ⟨u, hstep, hrest⟩ := exists_step_of_run_succ hrun
    have htracks : Tracks r c { s with inputs := s.inputs.tail } u :=
      .of_step (fun e he => hnone e (List.mem_of_mem_head? (List.head?_take ▸ he))) hstep
    have hclean : CleanKept r c s u := htracks.clean
    refine hclean.trans (ih hrest fun e he => hnone e ?_)
    rw [htracks.inputs] at he
    exact List.mem_of_mem_tail (List.tail_take_eq_take_tail .. ▸ he)

end Sys2Proof.Machine

/-- Settles O39: a clean cell at the end of the run has been clean and kept its pixels all along. -/
theorem changedCellsAreDirty : Obligations.ChangedCellsAreDirty := by
  unfold Obligations.ChangedCellsAreDirty
  rintro k s t r c hrun hnone ⟨px, hpx, hchanged⟩
  by_contra hclean
  obtain ⟨-, hkept⟩ := CleanKept.of_run hrun hnone (Bool.eq_false_iff.2 hclean)
  exact hchanged (hkept px (Fin.ext hpx))

/-- Settles O36: the sprite in closed form, where its bytes raise no MemFault. -/
theorem drawXorsSprite : Obligations.DrawXorsSprite := by
  unfold Obligations.DrawXorsSprite
  intro s x y n h
  have hfits : s.memFaultAt (s.ea 0) n.toNat = none := by
    rw [s.memFaultAt_eq, if_neg]
    rintro ⟨hfault, hn, habove⟩
    obtain hwrap | rfl | hbelow := h
    · cases hwrap.symm.trans hfault
    · exact hn rfl
    · simp only [State.ea, memSize] at habove
      omega
  have hn := toNat_le_screen_height n
  rw [exec_drw_of_no_fault hfits, ← drawSprite_v s x y hn]
  refine ⟨_, (s.drawSprite x y (s.bytesAtI n.toNat)).dirty, ?_, pixel_drawSprite s x y hn⟩
  rfl

/-- Settles O37: the marks of the sprite's rows, read under each policy. -/
theorem drawMarksCells : Obligations.DrawMarksCells := by
  unfold Obligations.DrawMarksCells
  intro s t x y n r c h
  obtain rfl := eq_of_exec_drw h
  rw [State.advance_dirty, dirtyCell_drawSprite_iff]
  refine ⟨fun hpolicy => or_congr_right ?_, fun hpolicy => or_congr_right ?_⟩
  · have hlen : (s.bytesAtI n.toNat).length ≤ 32 := by simpa using toNat_le_screen_height n
    rw [hpolicy, exists_rowMarks_toggled_iff hlen]
    simp only [spriteAt_bytesAtI, Fin.ext_iff, cellOf]
  · rw [hpolicy, exists_rowMarks_spanned_iff, s.bytesAtI_length]
    simp only [Fin.ext_iff, wrapY_val, cellOf, wrapX_val, Nat.mod_mod, State.reg]

/-- Settles O38: the second draw puts the same bits on the same pixels, and a pixel that the first draw lit is one that
was dark under a bit 1. -/
theorem drawTwiceRestores : Obligations.DrawTwiceRestores := by
  unfold Obligations.DrawTwiceRestores
  intro s t u x y n hst hx hy htu
  have hn := toNat_le_screen_height n
  have ht := eq_of_exec_drw hst
  have hu := eq_of_exec_drw htu
  have hbit (px : Fin 64) (py : Fin 32) : t.spriteBit x y n.toNat px py = s.spriteBit x y n.toNat px py :=
    spriteBit_congr hx hy (by rw [ht]; rfl) (by rw [ht]; rfl) ..
  have hfirst (px : Fin 64) (py : Fin 32) :
      pixel t.fb px py = (pixel s.fb px py ^^ s.spriteBit x y n.toNat px py) := by
    rw [ht]
    exact pixel_drawSprite s x y hn px py
  have hsecond (px : Fin 64) (py : Fin 32) : pixel u.fb px py = pixel s.fb px py := by
    rw [hu, State.advance_fb, pixel_drawSprite t x y hn, hbit, hfirst, Bool.xor_assoc, Bool.xor_self, Bool.xor_false]
  refine ⟨framebuffer_eq_of_pixel_eq hsecond, ?_⟩
  have hlit (px : Fin 64) (py : Fin 32) :
      (t.spriteBit x y n.toNat px py = true ∧ pixel t.fb px py = true) ↔
        (pixel s.fb px py = false ∧ pixel t.fb px py = true) := by
    rw [hbit, hfirst]
    cases pixel s.fb px py <;> cases s.spriteBit x y n.toNat px py <;> decide
  simp only [hu, State.advance_v, drawSprite_v t x y hn]
  refine (Vector.getElem_set_self _).trans (if_congr ?_ rfl rfl)
  exact exists_congr fun px => exists_congr fun py => hlit px py

/-- Settles O35: the screen of CLS is `darkFb` and `allDirty`. -/
theorem clsClearsScreen : Obligations.ClsClearsScreen := by
  unfold Obligations.ClsClearsScreen
  intro s
  exact ⟨darkFb, allDirty, rfl, pixel_darkFb, dirtyCell_allDirty⟩

end

section
/-! Control transfer (41_control_flow.md): the stack at a given SP, the two branches of RET and CALL, and the PC that a
skip and a jump write. -/

open Sys2Proof Sys2Proof.Machine

namespace Sys2Proof.Machine

variable {s : State}

theorem State.pop_of_sp_eq_succ {k : Fin 16} (h : s.sp = k.succ) :
    s.pop = some (s.stack[k], { s with sp := k.castSucc }) := by
  obtain ⟨hempty, -⟩ | ⟨j, hj, hpop⟩ := s.pop_cases
  · exact absurd (h.symm.trans hempty) k.succ_ne_zero
  · obtain rfl : j = k := Fin.succ_injective 16 (hj.symm.trans h)
    exact hpop

theorem State.push_of_sp_eq_castSucc {k : Fin 16} (a : Word) (h : s.sp = k.castSucc) :
    s.push a = some { s with stack := s.stack.set k a, sp := k.succ } := by
  obtain ⟨hfull, -⟩ | ⟨j, hj, hpush⟩ := s.push_cases a
  · exact absurd (h.symm.trans hfull) k.castSucc_lt_last.ne
  · obtain rfl : j = k := Fin.castSucc_injective 16 (hj.symm.trans h)
    exact hpush

theorem exec_ret_of_sp_eq_succ {k : Fin 16} (h : s.sp = k.succ) :
    exec .ret s = .next { s with sp := k.castSucc, pc := s.stack[k] } := by
  simp [exec, execRet, State.pop_of_sp_eq_succ h, State.setPc]

theorem exec_ret_of_empty (h : s.sp = 0) : exec .ret s = .next s.advance := by
  simp [exec, execRet, s.pop_empty (congrArg Fin.val h)]

theorem exec_call_of_sp_eq_castSucc {k : Fin 16} (nnn : BitVec 12) (h : s.sp = k.castSucc) :
    exec (.call nnn) s =
      .next { s with stack := s.stack.set k (s.pc + 2), sp := k.succ, pc := zextNNN nnn } := by
  simp [exec, execCall, State.push_of_sp_eq_castSucc _ h, State.setPc]

theorem exec_call_of_full (nnn : BitVec 12) (h : s.sp = 16) : exec (.call nnn) s = .next s.advance := by
  simp [exec, execCall, s.push_full _ (congrArg Fin.val h)]

/-- A skip whose Boolean test decides `p`: every skip instruction is this with its own condition (R128). -/
theorem State.skipIf_eq_of_iff (s : State) {c : Bool} {p : Prop} [Decidable p] (h : c = true ↔ p) :
    s.skipIf c = { s with pc := if p then s.pc + 4 else s.pc + 2 } :=
  congrArg s.setPc (if_congr h rfl rfl)

theorem zextNNN_add_zext16 (nnn : BitVec 12) (b : Byte) :
    zextNNN nnn + zext16 b = BitVec.ofNat 16 ((nnn.toNat + b.toNat) % 65536) := by
  apply BitVec.eq_of_toNat_eq
  simp [zextNNN]

end Sys2Proof.Machine

/-- Settles O14, by the two branches of the pop. -/
theorem returnPops : Obligations.ReturnPops := by
  unfold Obligations.ReturnPops
  intro s
  exact ⟨fun _ hsp => exec_ret_of_sp_eq_succ hsp, exec_ret_of_empty⟩

/-- Settles O15, by the two branches of the push. -/
theorem callPushes : Obligations.CallPushes := by
  unfold Obligations.CallPushes
  intro s nnn
  exact ⟨fun _ hsp => exec_call_of_sp_eq_castSucc nnn hsp, exec_call_of_full nnn⟩

/-- Settles O17: no case split, JP tests nothing. -/
theorem jumpSetsPc : Obligations.JumpSetsPc := by
  unfold Obligations.JumpSetsPc
  intro s nnn
  rfl

/-- Settles O18: both operands fit 16 bits, so the word addition is the sum of the numbers modulo 2^16. -/
theorem jumpV0SetsPc : Obligations.JumpV0SetsPc := by
  unfold Obligations.JumpV0SetsPc
  intro s nnn
  rw [← zextNNN_add_zext16]
  rfl

/-- Settles O19: the two tests decide equality with NN and its negation. -/
theorem skipOnImmediate : Obligations.SkipOnImmediate := by
  unfold Obligations.SkipOnImmediate
  intro s x nn
  exact ⟨congrArg _ (s.skipIf_eq_of_iff beq_iff_eq), congrArg _ (s.skipIf_eq_of_iff bne_iff_ne)⟩

/-- Settles O20: the two tests decide equality of the registers and its negation. -/
theorem skipOnRegisters : Obligations.SkipOnRegisters := by
  unfold Obligations.SkipOnRegisters
  intro s x y
  exact ⟨congrArg _ (s.skipIf_eq_of_iff beq_iff_eq), congrArg _ (s.skipIf_eq_of_iff bne_iff_ne)⟩

end

section
/-! Loads and arithmetic (42_alu.md): the immediate forms, the logic instructions with their optional VF reset, and the
masked random byte. -/

open Sys2Proof Sys2Proof.Machine

namespace Sys2Proof.Machine

theorem byte_add_eq_ofNat (a b : Byte) : a + b = BitVec.ofNat 8 ((a.toNat + b.toNat) % 256) := by
  apply BitVec.eq_of_toNat_eq
  simp

/-- The three logic instructions are this with their own result (R143 to R145): VF is reset after Vx is written, so at
X = F the reset is what stays. -/
theorem State.setV_logicFlag_advance_eq (s : State) (x : Reg) (r : Byte) :
    (s.setV x r).logicFlag.advance =
      { s with v := if s.cfg.logicResetsVf then (s.v.set x r).set 15 0 else s.v.set x r, pc := s.pc + 2 } := by
  rw [State.logicFlag_eq]
  rfl

end Sys2Proof.Machine

/-- Settles O21: only ADD computes anything, and its byte addition is the sum of the numbers modulo 256. -/
theorem loadsAndAddImmediate : Obligations.LoadsAndAddImmediate := by
  unfold Obligations.LoadsAndAddImmediate
  intro s x y nn
  refine ⟨rfl, ?_, rfl⟩
  rw [← byte_add_eq_ofNat]
  rfl

/-- Settles O22: one state update serves the three instructions, and each result is read bit by bit. -/
theorem logicIsBitwise : Obligations.LogicIsBitwise := by
  unfold Obligations.LogicIsBitwise
  intro s x y done
  have hdone (r : Byte) : .next (s.setV x r).logicFlag.advance = done r :=
    congrArg _ (s.setV_logicFlag_advance_eq x r)
  exact ⟨⟨_, hdone (s.reg x ||| s.reg y), fun _ => BitVec.getLsbD_or⟩,
    ⟨_, hdone (s.reg x &&& s.reg y), fun _ => BitVec.getLsbD_and⟩,
    ⟨_, hdone (s.reg x ^^^ s.reg y), fun _ => BitVec.getLsbD_xor⟩⟩

/-- Settles O27: the byte written is the draw AND NN, whose every bit is a bit of NN. -/
theorem randomIsMasked : Obligations.RandomIsMasked := by
  unfold Obligations.RandomIsMasked
  intro s x nn
  refine ⟨Config.randomByte s.draws &&& nn, rfl, rfl, fun j hj => ?_⟩
  rw [BitVec.getLsbD_and, Bool.and_eq_true] at hj
  exact hj.2

end

section
/-! The index register and memory transfer (43_index_memory.md): sums of words as sums of numbers, I after a block
transfer, and the three transfers where no access raises MemFault. -/

open Sys2Proof Sys2Proof.Machine

namespace Sys2Proof.Machine

theorem word_add_ofNat (a : Word) (n : Nat) : a + BitVec.ofNat 16 n = BitVec.ofNat 16 ((a.toNat + n) % 65536) := by
  apply BitVec.eq_of_toNat_eq
  simp

/-- The mask of FX1E keeps the exact sum modulo 4096, since the 16-bit sum it masks differs from the exact one by a
multiple of 65536 (R171). -/
theorem word_add_zext16_mask (a : Word) (b : Byte) :
    (a + zext16 b) &&& 0xFFF = BitVec.ofNat 16 ((a.toNat + b.toNat) % 4096) := by
  have hsum : a + zext16 b = BitVec.ofNat 16 ((a.toNat + b.toNat) % 65536) := by
    rw [← word_add_ofNat, BitVec.ofNat_toNat]
  have hmask (n : Nat) : n &&& 0xFFF = n % 4096 := Nat.and_two_pow_sub_one_eq_mod n 12
  have hlt : (a.toNat + b.toNat) % 4096 < 65536 := by omega
  apply BitVec.eq_of_toNat_eq
  simp [hsum, hmask, Nat.mod_eq_of_lt hlt]

variable {s : State} {x : Reg}

theorem State.iAfterBlock_eq (s : State) (x : Reg) :
    s.iAfterBlock x =
      if s.cfg.ldstIncrementsI then BitVec.ofNat 16 ((s.i.toNat + x.val + 1) % 65536) else s.i := by
  rw [iAfterBlock, word_add_ofNat, Nat.add_assoc]

/-- The guard of a transfer of `n + 1` bytes from I is about the last of them (R52, R53). -/
theorem State.access_of_last_fits {n : Nat} (k : Result) (h : s.cfg.oobPolicy = .wrap ∨ s.i.toNat + n ≤ 0xFFF) :
    s.access (s.ea 0) (n + 1) k = k := by
  obtain hwrap | hlast := h
  · exact s.access_of_wraps (s.ea 0) (n + 1) k hwrap
  · exact s.access_of_fits (s.ea 0) (n + 1) k (Nat.succ_le_succ hlast)

theorem exec_ldB_of_fits (h : s.cfg.oobPolicy = .wrap ∨ s.i.toNat + 2 ≤ 0xFFF) :
    exec (.ldB x) s =
      .next { s with mem := s.mem.writeBytes s.i.toNat (decimalDigits s.v[x]), pc := s.pc + 2 } :=
  State.access_of_last_fits _ h

theorem exec_ldMemFromV_of_fits (h : s.cfg.oobPolicy = .wrap ∨ s.i.toNat + x.val ≤ 0xFFF) :
    exec (.ldMemFromV x) s =
      .next { s with
        mem := s.mem.writeBytes s.i.toNat (s.regsUpTo x), i := s.iAfterBlock x, pc := s.pc + 2 } :=
  State.access_of_last_fits _ h

/-- The state FX65 answers, for any registers and I: with `regsFromMem` in place of `w`, `rfl` would evaluate it. -/
theorem State.setRegs_setI_advance_eq (s : State) (w : Vector Byte 16) (a : Word) :
    ((s.setRegs w).setI a).advance = { s with v := w, i := a, pc := s.pc + 2 } := rfl

theorem exec_ldVFromMem_of_fits (h : s.cfg.oobPolicy = .wrap ∨ s.i.toNat + x.val ≤ 0xFFF) :
    exec (.ldVFromMem x) s =
      .next { s with v := s.regsFromMem x, i := s.iAfterBlock x, pc := s.pc + 2 } := by
  rw [exec, execLdVFromMem, State.access_of_last_fits _ h, State.setRegs_setI_advance_eq]

theorem State.getElem_regsFromMem (s : State) (x k : Reg) :
    (s.regsFromMem x)[k] = if k ≤ x then s.mem.read ((s.i.toNat + k.val) % 4096) else s.v[k] := by
  simp [regsFromMem, read, ea, ix, memSize]

theorem decimalDigits_map_toNat (d : Byte) :
    (decimalDigits d).map BitVec.toNat = [d.toNat / 100, d.toNat / 10 % 10, d.toNat % 10] := by
  simp [decimalDigits]
  omega

/-- The three digits stored from `base` read back as numbers, hundreds first (R174). -/
theorem Memory.read_writeBytes_decimalDigits (m : Memory) (base : Nat) (d : Byte) {k : Nat} (hk : k < 3) :
    ((m.writeBytes base (decimalDigits d)).read (ix (base + k))).toNat =
      [d.toNat / 100, d.toNat / 10 % 10, d.toNat % 10][k] := by
  rw [m.read_writeBytes_same (decimalDigits d) base k hk (by simp [decimalDigits, memSize])]
  simp only [← decimalDigits_map_toNat]
  exact (List.getElem_map _).symm

end Sys2Proof.Machine

/-- Settles O31: FX33 stores a block of three bytes, the digits. -/
theorem decimalDigitsStored : Obligations.DecimalDigitsStored := by
  unfold Obligations.DecimalDigitsStored
  intro s x h
  have hread {k : Nat} (hk : k < 3) := s.mem.read_writeBytes_decimalDigits s.i.toNat s.v[x] hk
  refine ⟨_, exec_ldB_of_fits h, hread (by decide : 0 < 3), hread (by decide : 1 < 3), hread (by decide : 2 < 3),
    fun a h0 h1 h2 => Memory.read_writeBytes_other _ _ _ _ fun k hk hix => ?_⟩
  have hk : k < 3 := hk
  interval_cases k
  · exact h0 hix.symm
  · exact h1 hix.symm
  · exact h2 hix.symm

/-- Settles O32: FX55 stores the block V0 to Vx. -/
theorem registersStored : Obligations.RegistersStored := by
  unfold Obligations.RegistersStored
  intro s x h
  have hexec := exec_ldMemFromV_of_fits h
  have hread {k : Reg} (hk : k ≤ x) := State.read_of_ldMemFromV hexec hk
  rw [← s.iAfterBlock_eq]
  refine ⟨_, hexec, fun _ => hread, fun a ha => Memory.read_writeBytes_other _ _ _ _ fun k hk hix => ?_⟩
  rw [State.regsUpTo_length] at hk
  exact ha ⟨k, by omega⟩ (Nat.lt_succ_iff.1 hk) hix.symm

/-- Settles O33: FX65 writes the registers as one vector, read index by index. -/
theorem registersLoaded : Obligations.RegistersLoaded := by
  unfold Obligations.RegistersLoaded
  intro s x h
  rw [← s.iAfterBlock_eq]
  exact ⟨_, exec_ldVFromMem_of_fits h, s.getElem_regsFromMem x⟩

/-- Settles O28: the zero extension is the definition of `zextNNN`. -/
theorem loadIndex : Obligations.LoadIndex := by
  unfold Obligations.LoadIndex
  intro s nnn
  rfl

/-- Settles O29: only FX30 reduces its sum, which may exceed 16 bits. -/
theorem glyphAddresses : Obligations.GlyphAddresses := by
  unfold Obligations.GlyphAddresses
  intro s x
  have hbyte := s.v[x].isLt
  refine ⟨rfl, by omega, ?_⟩
  rw [← word_add_ofNat]
  rfl

/-- Settles O30: the flag reads the exact sum, and masking the 16-bit sum gives it modulo 4096. -/
theorem addIndexMasksAndFlags : Obligations.AddIndexMasksAndFlags := by
  unfold Obligations.AddIndexMasksAndFlags
  intro s x
  rw [← word_add_zext16_mask]
  simp only [exec, execAddI, State.indexFlag_eq, indexOverflow, decide_eq_true_eq]
  rfl

end

section
/-! Keys and timers (44_keys_timers.md): which key a byte names, and the lowest of the pressed keys. -/

open Sys2Proof Sys2Proof.Machine

namespace Sys2Proof.Machine

variable {s : State} {x : Reg}

/-- A byte above 0x0F is the index of no key, so neither side holds of it (D13). -/
theorem State.pressed_iff (s : State) (b : Byte) :
    s.pressed b = true ↔ ∃ k : Fin 16, k.val = b.toNat ∧ s.keys[k] = true := by
  unfold pressed
  split
  · next hb =>
    refine ⟨fun h => ⟨⟨b.toNat, hb⟩, rfl, h⟩, ?_⟩
    rintro ⟨k, hk, h⟩
    simpa [hk] using h
  · next hb =>
    refine ⟨nofun, ?_⟩
    rintro ⟨k, hk, -⟩
    exact absurd (hk ▸ k.isLt) hb

theorem State.lowestKey_eq_some_iff {s : State} {k : Fin 16} :
    s.lowestKey = some k ↔ s.keys[k] = true ∧ ∀ j < k, s.keys[j] = false := by
  rw [lowestKey, ← Fin.find?_eq_find?_finRange, Fin.find?_eq_some_iff]

theorem exec_skp_eq (x : Reg) (s : State) :
    exec (.skp x) s = .next { s with pc := if s.pressed s.v[x] then s.pc + 4 else s.pc + 2 } := rfl

theorem exec_sknp_eq (x : Reg) (s : State) :
    exec (.sknp x) s = .next { s with pc := if s.pressed s.v[x] then s.pc + 2 else s.pc + 4 } :=
  congrArg (fun a => Host.Outcome.next (s.setPc a)) (State.skipIf_not_pc (s := s) (s.pressed s.v[x]))

theorem exec_ldK_of_lowestKey_eq_some {k : Fin 16} (h : s.lowestKey = some k) :
    exec (.ldK x) s = .next { s with v := s.v.set x (BitVec.ofNat 8 k.val), pc := s.pc + 2 } := by
  rw [exec, execLdK, h]
  rfl

theorem exec_ldK_of_lowestKey_eq_none (h : s.lowestKey = none) : exec (.ldK x) s = .next s := by
  rw [exec, execLdK, h]

end Sys2Proof.Machine

/-- Settles O43: the two tests decide whether Vx names a pressed key, and its negation. -/
theorem skipOnKey : Obligations.SkipOnKey := by
  unfold Obligations.SkipOnKey
  intro s x down
  have hdown : s.pressed s.v[x] = true ↔ down := s.pressed_iff s.v[x]
  rw [exec_skp_eq, exec_sknp_eq, ← hdown]
  refine ⟨fun h => ?_, fun h => ?_⟩
  · simp only [if_pos h, and_self]
  · simp only [if_neg h, and_self]

/-- Settles O44, by the two answers of the search for the lowest pressed key. -/
theorem keyWaitTakesLowest : Obligations.KeyWaitTakesLowest := by
  unfold Obligations.KeyWaitTakesLowest
  intro s x
  refine ⟨fun k hk hlow => exec_ldK_of_lowestKey_eq_some (State.lowestKey_eq_some_iff.2 ⟨hk, hlow⟩), fun hnone => ?_⟩
  have hkeys : s.keys = Vector.replicate 16 false := Vector.ext fun k hk => by simpa using hnone ⟨k, hk⟩
  exact exec_ldK_of_lowestKey_eq_none (s.lowestKey_eq_none_iff.2 hkeys)

/-- Settles O45: each copies one byte and advances; FX18 leaves the flags to the timer tick (D29). -/
theorem timerInstructions : Obligations.TimerInstructions := by
  unfold Obligations.TimerInstructions
  intro s x
  exact ⟨rfl, rfl, rfl⟩

end

section
/-! The timer tick (60_exceptions.md section 3) in closed form, once and after any number of ticks. -/

open Sys2Proof Sys2Proof.Machine

namespace Sys2Proof.Machine

theorem LifecycleFlags.promoteDraw_eq (f : LifecycleFlags) :
    f.promoteDraw = { f with gpuDrawReady := f.gpuDrawReady || f.cpuDrawPending, cpuDrawPending := false } := by
  obtain ⟨_, _, _, pending, _⟩ := f
  cases pending <;> simp [promoteDraw]

theorem tickDown_eq_ofNat (b : Byte) : tickDown b = BitVec.ofNat 8 (b.toNat - 1) := by
  rw [← tickDown_toNat, BitVec.ofNat_toNat, BitVec.setWidth_eq]

theorem State.timerTick_eq (s : State) :
    s.timerTick = { s with
      dt := BitVec.ofNat 8 (s.dt.toNat - 1)
      st := BitVec.ofNat 8 (s.st.toNat - 1)
      flags := { s.flags with
        gpuDrawReady := s.flags.gpuDrawReady || s.flags.cpuDrawPending
        cpuDrawPending := false
        soundActive := decide (1 < s.st.toNat) } } := by
  rw [timerTick, LifecycleFlags.promoteDraw_eq, tickDown_ne_zero, tickDown_eq_ofNat, tickDown_eq_ofNat]

theorem State.dt_iterate_timerTick (s : State) (k : Nat) : (timerTick^[k] s).dt.toNat = s.dt.toNat - k := by
  induction k with
  | zero => rfl
  | succ k ih => rw [Function.iterate_succ_apply', timerTick_dt, tickDown_toNat, ih, Nat.sub_sub]

theorem State.st_iterate_timerTick (s : State) (k : Nat) : (timerTick^[k] s).st.toNat = s.st.toNat - k := by
  induction k with
  | zero => rfl
  | succ k ih => rw [Function.iterate_succ_apply', timerTick_st, tickDown_toNat, ih, Nat.sub_sub]

/-- SOUND_ACTIVE is written by each tick from ST after it, so only the last tick counts (R235). -/
theorem State.soundActive_iterate_timerTick (s : State) {k : Nat} (hk : 0 < k) :
    (timerTick^[k] s).flags.soundActive = decide (k < s.st.toNat) := by
  obtain ⟨j, rfl⟩ := Nat.exists_eq_succ_of_ne_zero hk.ne'
  rw [Function.iterate_succ_apply', timerTick_eq]
  simp only [st_iterate_timerTick, decide_eq_decide]
  omega

end Sys2Proof.Machine

/-- Settles O46: promotion, both timers and SOUND_ACTIVE in closed form. -/
theorem timerTickEffect : Obligations.TimerTickEffect := by
  unfold Obligations.TimerTickEffect
  exact State.timerTick_eq

/-- Settles O47, by the values of the timers and of SOUND_ACTIVE after `k` ticks. -/
theorem timerLaws : Obligations.TimerLaws := by
  unfold Obligations.TimerLaws
  intro s t x k
  refine ⟨fun h hk => ?_, fun h y => ⟨_, rfl, ?_⟩⟩
  · rw [State.soundActive_iterate_timerTick t hk, eq_of_next h]
    rfl
  · have hread : (State.timerTick^[k] t).dt.toNat = s.v[x].toNat - k := by
      rw [State.dt_iterate_timerTick, eq_of_next h]
      rfl
    simpa using hread

end

section
/-! The interfaces of the block (60_exceptions.md section 5): what load, start and stop can leave, and the operations
that write one bit. -/

open Sys2Proof Sys2Proof.Machine

namespace Sys2Proof.Machine

variable (s : State)

theorem State.load_of_too_long {bytes : List Byte} (h : romMax < bytes.length) : s.load bytes = (false, s) :=
  if_neg h.not_ge

theorem State.load_cases (bytes : List Byte) :
    s.load bytes = (false, s) ∨
      s.load bytes = (true, { s with mem := loadImage s.cfg bytes, flags := { s.flags with romLoaded := true } }) := by
  obtain h | h := Nat.lt_or_ge romMax bytes.length
  · exact .inl (s.load_of_too_long h)
  · exact .inr (s.load_of_fits h)

theorem State.start_cases (hw : Bool) :
    s.start hw = (false, s) ∨
      s.start hw = (true, { s.initRegs with
        pulseCpu := false
        pulseTimer := false
        flags := { s.flags with hwTimerMode := hw, initialized := true, running := true } }) := by
  unfold start
  split
  · exact .inl rfl
  · exact .inr rfl

theorem State.stop_cases : s.stop = (false, s) ∨ s.stop = (true, s.stopCore) := by
  unfold stop
  split
  · exact .inr rfl
  · exact .inl rfl

theorem State.getElem_setKey (k j : Fin 16) (b : Bool) :
    (s.setKey k b).keys[j] = if j = k then b else s.keys[j] := by
  simp [Vector.getElem_set, Fin.ext_iff, eq_comm]

end Sys2Proof.Machine

/-- Settles O49, by the two outcomes of the length check. -/
theorem loadRejectsLongRom : Obligations.LoadRejectsLongRom := by
  unfold Obligations.LoadRejectsLongRom
  intro s bytes
  refine ⟨⟨fun h => ?_, fun h => by rw [s.load_of_fits h]⟩, s.load_of_too_long⟩
  by_contra! hlong
  rw [s.load_of_too_long hlong] at h
  cases h

/-- Settles O53: only clear_dirty computes anything, one bit of a row. -/
theorem rendererAndPulseOperations : Obligations.RendererAndPulseOperations := by
  unfold Obligations.RendererAndPulseOperations
  intro s
  exact ⟨fun r r' c c' => ⟨rfl, dirtyCell_unmarkCell s.dirty r r' c c'⟩, rfl, rfl, rfl⟩

end

section
/-! Under OOB_POLICY = wrap nothing stops (60_exceptions.md section 1): from one instruction up to a step of the block. -/

open Sys2Proof Sys2Proof.Machine

namespace Sys2Proof.Machine

variable {s : State} (h : s.wraps)
include h

theorem exists_next_of_exec (i : Instr) : ∃ t, exec i s = .next t := by
  cases i with
  | drw | ldB | ldMemFromV | ldVFromMem => exact ⟨_, s.access_of_wraps _ _ _ h⟩
  | ret =>
    obtain ⟨-, hpop⟩ | ⟨_, -, hpop⟩ := s.pop_cases <;> exact ⟨_, by rw [exec, execRet, hpop]⟩
  | call =>
    obtain ⟨-, hpush⟩ | ⟨_, -, hpush⟩ := s.push_cases (s.pc + 2) <;> exact ⟨_, by rw [exec, execCall, hpush]⟩
  | ldK =>
    cases hkey : s.lowestKey with
    | none => exact ⟨_, exec_ldK_of_lowestKey_eq_none hkey⟩
    | some k => exact ⟨_, exec_ldK_of_lowestKey_eq_some hkey⟩
  | _ => exact ⟨_, rfl⟩

theorem exists_next_of_instrStep : ∃ t, instrStep s = .next t := by
  rw [instrStep, s.access_of_wraps _ _ _ h]
  cases hword : decode (s.fetch16 s.pc.toNat) with
  | ok i => rw [State.runWord_of_decode hword]; exact exists_next_of_exec h i
  | error => exact ⟨_, State.runWord_unknown hword⟩

theorem exists_next_of_pump (c d : Bool) : ∃ t, pump c d s = .next t := by
  have hpulses : s.takePulses.wraps := by
    rw [s.takePulses_eq]
    exact h
  obtain ⟨u, hu⟩ := exists_next_of_instrStep hpulses
  unfold pump
  rw [hu]
  split_ifs <;> exact ⟨_, rfl⟩

theorem exists_next_of_step : ∃ t, step s = .next t := by
  have hnext : s.nextInput.2.wraps := by
    rw [s.nextInput_snd]
    exact h
  unfold step
  cases s.nextInput.1 with
  | pump c d => exact exists_next_of_pump hnext c d
  | _ => exact ⟨_, rfl⟩

end Sys2Proof.Machine

/-- Settles O12: the one stop is MemFault, which an access raises only under the other policy. -/
theorem nothingStopsUnderWrap : Obligations.NothingStopsUnderWrap := by
  unfold Obligations.NothingStopsUnderWrap
  intro s h
  exact ⟨exists_next_of_exec h, exists_next_of_instrStep h, exists_next_of_step h⟩

end

section
/-! What a pump does to the flags, the pulses, the keys and the parameters (60_exceptions.md section 3): its two phases,
and the EXIT that stops the block in the first. -/

open Sys2Proof Sys2Proof.Machine

namespace Sys2Proof.Machine

variable {s t u : State} {c d due : Bool}

@[simp] theorem State.takePulses_flags (s : State) : s.takePulses.flags = s.flags := by rw [s.takePulses_eq]

@[simp] theorem State.takePulses_keys (s : State) : s.takePulses.keys = s.keys := by rw [s.takePulses_eq]

@[simp] theorem State.takePulses_cfg (s : State) : s.takePulses.cfg = s.cfg := by rw [s.takePulses_eq]

/-- The instruction phase of a pump: the step where its cadence is due, else nothing. -/
def instrPhase (due : Bool) (s : State) : Result := if due then instrStep s else .next s

/-- A pump of an INITIALIZED block is its two phases, the pulses taken first; of another it is nothing (R229). -/
theorem pump_phases (h : pump c d s = .next t) :
    (s.flags.initialized = false ∧ t = s) ∨
      (s.flags.initialized = true ∧
        ∃ u, instrPhase (s.due c d).1 s.takePulses = .next u ∧ t = u.afterCpu (s.due c d).2) := by
  obtain hoff | ⟨hinit, hdue, ht⟩ | ⟨hinit, hdue, u, hu, ht⟩ := pump_cases h
  · exact .inl hoff
  · exact .inr ⟨hinit, _, by rw [hdue]; rfl, ht⟩
  · exact .inr ⟨hinit, u, by rw [hdue]; exact hu, ht⟩

/-- The timer phase ticks where its cadence is due and the block still runs; else it does nothing. -/
theorem State.afterCpu_ticks_or_eq (s : State) (due : Bool) :
    (s.flags.initialized = true ∧ due = true ∧ s.afterCpu due = s.timerTick) ∨ s.afterCpu due = s := by
  unfold afterCpu
  split_ifs with h
  · rw [Bool.and_eq_true] at h
    exact .inl ⟨h.1, h.2, rfl⟩
  · exact .inr rfl

/-- No timer tick follows the instruction that stopped the block. -/
@[simp] theorem State.stopCore_afterCpu (s : State) (due : Bool) : s.stopCore.afterCpu due = s.stopCore := rfl

@[simp] theorem State.afterCpu_pulseCpu (s : State) : (s.afterCpu due).pulseCpu = s.pulseCpu := by
  obtain h | h := s.afterCpu_cases due <;> simp [h]

@[simp] theorem State.afterCpu_pulseTimer (s : State) : (s.afterCpu due).pulseTimer = s.pulseTimer := by
  obtain h | h := s.afterCpu_cases due <;> simp [h]

/-- `t` has the pulse flags of `s`, and its lifecycle flags but for the draw signal. -/
structure KeepsLifecycle (s t : State) : Prop where
  pulseCpu   : t.pulseCpu = s.pulseCpu
  pulseTimer : t.pulseTimer = s.pulseTimer
  flags      : t.flags = { s.flags with cpuDrawPending := t.flags.cpuDrawPending }

theorem keepsLifecycle_of_exec {i : Instr} (h : exec i s = .next t) (hi : i ≠ .exit) : KeepsLifecycle s t := by
  obtain ⟨-, -, -, -, -, -, -, -, -, -, -, -, hkept⟩ := otherStateWritersAreListed i s t h
  obtain ⟨hcpu, htimer, hflags⟩ := hkept hi
  exact ⟨hcpu, htimer, hflags⟩

/-- The instruction phase keeps the lifecycle of the block, or it executed EXIT. -/
theorem instrPhase_cases (h : instrPhase due s = .next u) :
    KeepsLifecycle s u ∨
      (due = true ∧ decode (s.fetch16 s.pc.toNat) = .ok .exit ∧ u = s.advance.stopCore) := by
  unfold instrPhase at h
  split at h
  case isFalse =>
    obtain rfl := eq_of_next h
    exact .inl ⟨rfl, rfl, rfl⟩
  case isTrue hdue =>
    obtain ⟨i, hi, hexec⟩ | ⟨-, -, rfl⟩ := instrStep_cases h
    · by_cases hexit : i = .exit
      · subst hexit
        exact .inr ⟨hdue, hi, eq_of_next hexec⟩
      · exact .inl (keepsLifecycle_of_exec hexec hexit)
    · exact .inl ⟨rfl, rfl, rfl⟩

/-- In hardware-timer mode the pulses decide alone (R231). -/
theorem pump_of_hwTimerMode (h : s.flags.hwTimerMode = true) (c d c' d' : Bool) : pump c' d' s = pump c d s := by
  have hdue : s.due c' d' = s.due c d := by simp only [State.due, h, if_true]
  unfold pump
  rw [hdue]

/-- Both phases of a pump keep the pulse flags as the exchange left them; EXIT clears them with every lifecycle flag. -/
theorem pulses_of_pump (hinit : s.flags.initialized = true) (h : pump c d s = .next t) :
    (t.pulseCpu = s.takePulses.pulseCpu ∧ t.pulseTimer = s.takePulses.pulseTimer) ∨
      (t.flags = LifecycleFlags.clear ∧ t.pulseCpu = false ∧ t.pulseTimer = false) := by
  obtain ⟨hoff, -⟩ | ⟨-, u, hu, rfl⟩ := pump_phases h
  · cases hinit.symm.trans hoff
  obtain hkeeps | ⟨-, -, rfl⟩ := instrPhase_cases hu
  · simp [hkeeps.pulseCpu, hkeeps.pulseTimer]
  · exact .inr ⟨rfl, rfl, rfl⟩

/-- PAUSED and HW_TIMER_MODE over a pump: kept, unless an EXIT cleared every flag. -/
theorem modes_of_pump (h : pump c d s = .next t) :
    (t.flags.paused = s.flags.paused ∧ t.flags.hwTimerMode = s.flags.hwTimerMode) ∨
      t.flags = LifecycleFlags.clear := by
  obtain ⟨-, rfl⟩ | ⟨-, u, hu, rfl⟩ := pump_phases h
  · exact .inl ⟨rfl, rfl⟩
  obtain hkeeps | ⟨-, -, rfl⟩ := instrPhase_cases hu
  · have hflags := hkeeps.flags
    rw [State.takePulses_flags] at hflags
    obtain ⟨-, -, htick⟩ | hnone := u.afterCpu_ticks_or_eq (s.due c d).2
    · rw [htick, u.timerTick_eq, hflags]
      exact .inl ⟨rfl, rfl⟩
    · rw [hnone, hflags]
      exact .inl ⟨rfl, rfl⟩
  · exact .inr rfl

/-- The flag GPU_DRAW_READY rises in a pump only by a timer tick that finds the draw signal: no instruction raises it
(R237). -/
theorem rise_of_pump (h : pump c d s = .next t) (hs : s.flags.gpuDrawReady = false)
    (ht : t.flags.gpuDrawReady = true) :
    s.flags.initialized = true ∧ (s.due c d).2 = true ∧
      ∃ u, instrPhase (s.due c d).1 s.takePulses = .next u ∧
        u.flags.initialized = true ∧ u.flags.cpuDrawPending = true ∧ t = u.timerTick := by
  obtain ⟨-, rfl⟩ | ⟨hinit, u, hu, rfl⟩ := pump_phases h
  · cases hs.symm.trans ht
  have hready : u.flags.gpuDrawReady = false := by
    obtain hkeeps | ⟨-, -, rfl⟩ := instrPhase_cases hu
    · rw [hkeeps.flags, State.takePulses_flags]
      exact hs
    · rfl
  obtain ⟨hon, hdue, htick⟩ | hnone := u.afterCpu_ticks_or_eq (s.due c d).2
  · have hpending : u.flags.cpuDrawPending = true := by simpa [htick, u.timerTick_eq, hready] using ht
    exact ⟨hinit, hdue, u, hu, hon, hpending, htick⟩
  · rw [hnone] at ht
    cases hready.symm.trans ht

/-- It falls in a pump only by the stop of an EXIT: no timer tick clears it (R237, D34). -/
theorem fall_of_pump (h : pump c d s = .next t) (hs : s.flags.gpuDrawReady = true)
    (ht : t.flags.gpuDrawReady = false) :
    s.flags.initialized = true ∧ (s.due c d).1 = true ∧ decode (s.fetch16 s.pc.toNat) = .ok .exit := by
  obtain ⟨-, rfl⟩ | ⟨hinit, u, hu, rfl⟩ := pump_phases h
  · cases ht.symm.trans hs
  obtain hkeeps | ⟨hdue, hexit, -⟩ := instrPhase_cases hu
  · have hready : u.flags.gpuDrawReady = true := by
      rw [hkeeps.flags, State.takePulses_flags]
      exact hs
    obtain hnone | htick := u.afterCpu_cases (s.due c d).2
    · rw [hnone] at ht
      cases ht.symm.trans hready
    · simp [htick, u.timerTick_eq, hready] at ht
  · rw [s.takePulses_eq] at hexit
    exact ⟨hinit, hdue, hexit⟩

/-- `t` has the keys and the parameters of `s`: so it is after every instruction and every pump. -/
structure KeepsKeysAndCfg (s t : State) : Prop where
  keys : t.keys = s.keys
  cfg  : t.cfg = s.cfg

theorem KeepsKeysAndCfg.of_instrStep (h : instrStep s = .next t) : KeepsKeysAndCfg s t := by
  obtain ⟨i, -, hexec⟩ | ⟨-, -, rfl⟩ := instrStep_cases h
  · obtain ⟨-, -, -, -, -, -, -, -, -, hkeys, hcfg, -⟩ := otherStateWritersAreListed i s t hexec
    exact ⟨hkeys, hcfg⟩
  · exact ⟨rfl, rfl⟩

theorem KeepsKeysAndCfg.afterCpu (h : KeepsKeysAndCfg s u) (due : Bool) : KeepsKeysAndCfg s (u.afterCpu due) := by
  obtain hnone | htick := u.afterCpu_cases due
  · rwa [hnone]
  · rw [htick]
    exact ⟨h.keys, h.cfg⟩

theorem KeepsKeysAndCfg.of_pump (h : pump c d s = .next t) : KeepsKeysAndCfg s t := by
  obtain ⟨-, rfl⟩ | ⟨-, -, rfl⟩ | ⟨-, -, u, hstep, rfl⟩ := pump_cases h
  · exact ⟨rfl, rfl⟩
  · exact .afterCpu ⟨s.takePulses_keys, s.takePulses_cfg⟩ _
  · obtain ⟨hkeys, hcfg⟩ := KeepsKeysAndCfg.of_instrStep hstep
    exact .afterCpu ⟨hkeys.trans s.takePulses_keys, hcfg.trans s.takePulses_cfg⟩ _

end Sys2Proof.Machine

/-- Settles O10: the exchange clears the pulse flags in hardware-timer mode only, and a block still INITIALIZED was not
stopped. -/
theorem pulsesMergeAndAreTaken : Obligations.PulsesMergeAndAreTaken := by
  unfold Obligations.PulsesMergeAndAreTaken
  intro s t c d hinit h
  have hpulses := pulses_of_pump hinit h
  rw [s.takePulses_eq] at hpulses
  refine ⟨fun hhw => ⟨fun c' d' => ?_, ?_⟩, fun hhw ht => ?_, rfl, rfl⟩
  · rw [pump_of_hwTimerMode hhw c d, h]
  · obtain hkept | ⟨-, hcleared⟩ := hpulses
    · simpa [hhw] using hkept
    · exact hcleared
  · obtain hkept | ⟨hstopped, -⟩ := hpulses
    · simpa [hhw] using hkept
    · rw [hstopped] at ht
      cases ht

end

section
/-! What each operation of the outside writes of the keys, the parameters and the flags (60_exceptions.md sections 3
and 5), and the step of the block that performs it. -/

open Sys2Proof Sys2Proof.Machine

namespace Sys2Proof.Machine

variable {s t : State} {e : Input}

/-- What the operation `e` from `s` to `t` leaves, or who else writes it: keys by set_key (R244), HW_TIMER_MODE by start
(R232), every flag by a stop (R266), GPU_DRAW_READY by a pump, reset_draw or stop (R237). -/
structure OperationFrame (e : Input) (s t : State) : Prop where
  cfg   : t.cfg = s.cfg
  keys  : t.keys = s.keys ∨ ∃ k b, e = .setKey k b
  modes : (t.flags.paused = s.flags.paused ∧ (t.flags.hwTimerMode = s.flags.hwTimerMode ∨ ∃ hw, e = .start hw)) ∨
    t.flags = LifecycleFlags.clear
  ready : t.flags.gpuDrawReady = s.flags.gpuDrawReady ∨ (∃ c d, e = .pump c d) ∨
    (t.flags.gpuDrawReady = false ∧ (e = .resetDraw ∨ e = .stop))

/-- An operation that writes none of the fields of the frame. -/
theorem OperationFrame.of_eq (hcfg : t.cfg = s.cfg) (hkeys : t.keys = s.keys)
    (hpaused : t.flags.paused = s.flags.paused) (hmode : t.flags.hwTimerMode = s.flags.hwTimerMode)
    (hready : t.flags.gpuDrawReady = s.flags.gpuDrawReady) : OperationFrame e s t :=
  ⟨hcfg, .inl hkeys, .inl ⟨hpaused, .inl hmode⟩, .inl hready⟩

theorem OperationFrame.of_applyInput (h : applyInput e s = .next t) : OperationFrame e s t := by
  cases e with
  | pump c d =>
    obtain ⟨hkeys, hcfg⟩ := KeepsKeysAndCfg.of_pump h
    exact ⟨hcfg, .inl hkeys, (modes_of_pump h).imp_left (.imp_right .inl), .inr (.inl ⟨c, d, rfl⟩)⟩
  | load bytes =>
    rw [eq_of_next h]
    obtain heq | heq := s.load_cases bytes <;> rw [heq] <;> exact .of_eq rfl rfl rfl rfl rfl
  | start hw =>
    rw [eq_of_next h]
    obtain heq | heq := s.start_cases hw <;> rw [heq] <;>
      exact ⟨rfl, .inl rfl, .inl ⟨rfl, .inr ⟨hw, rfl⟩⟩, .inl rfl⟩
  | stop =>
    rw [eq_of_next h]
    obtain heq | heq := s.stop_cases <;> rw [heq]
    · exact .of_eq rfl rfl rfl rfl rfl
    · exact ⟨rfl, .inl rfl, .inr rfl, .inr (.inr ⟨rfl, .inr rfl⟩)⟩
  | resetDraw =>
    rw [eq_of_next h]
    exact ⟨rfl, .inl rfl, .inl ⟨rfl, .inl rfl⟩, .inr (.inr ⟨rfl, .inl rfl⟩)⟩
  | setKey k b =>
    rw [eq_of_next h]
    exact ⟨rfl, .inr ⟨k, b, rfl⟩, .inl ⟨rfl, .inl rfl⟩, .inl rfl⟩
  | clearDirty | cpuPulse | timerPulse =>
    rw [eq_of_next h]
    exact .of_eq rfl rfl rfl rfl rfl

/-- The step of the block performs its next operation after taking it from the queue, which no field of the frame
names. -/
theorem OperationFrame.of_step (h : step s = .next t) : OperationFrame s.nextInput.1 s t := by
  have hframe : OperationFrame s.nextInput.1 s.nextInput.2 t := .of_applyInput h
  rw [s.nextInput_snd] at hframe
  exact ⟨hframe.cfg, hframe.keys, hframe.modes, hframe.ready⟩

/-- An operation other than the pump of an empty queue is the queue's first (log entry 4). -/
theorem head?_inputs_of_nextInput (h : s.nextInput.1 = e) (he : e ≠ .pump true false) :
    s.inputs.head? = some e := by
  unfold State.nextInput at h
  split at h
  · exact absurd h.symm he
  · next hqueue => rw [hqueue, ← h]; rfl

end Sys2Proof.Machine

/-- Settles O52: the write of one slot, then the frame of the step's operation. -/
theorem keysChangeOnlyBySetKey : Obligations.KeysChangeOnlyBySetKey := by
  unfold Obligations.KeysChangeOnlyBySetKey
  refine ⟨State.getElem_setKey, fun _ _ _ => rfl, fun s t h hkeys => ?_⟩
  obtain hkept | ⟨k, b, hset⟩ := (OperationFrame.of_step h).keys
  · exact absurd hkept hkeys
  · exact ⟨k, b, head?_inputs_of_nextInput hset nofun⟩

/-- Settles O60: start keeps PAUSED, and a stop clears it. -/
theorem fixedForTheRun : Obligations.FixedForTheRun := by
  unfold Obligations.FixedForTheRun
  intro s t h
  obtain ⟨hcfg, -, ⟨hpaused, hmode⟩ | hclear, -⟩ := OperationFrame.of_step h
  · refine ⟨hcfg, hpaused ▸ id, fun hchanged => .inl ?_⟩
    obtain hkept | ⟨hw, hstart⟩ := hmode
    · exact absurd hkept hchanged
    · exact ⟨hw, head?_inputs_of_nextInput hstart nofun⟩
  · refine ⟨hcfg, fun ht => ?_, fun _ => .inr hclear⟩
    rw [hclear] at ht
    cases ht

/-- Settles O42: of the operations other than pump only reset_draw and stop write GPU_DRAW_READY; a pump has its own
two lemmas. -/
theorem frameReadyEdges : Obligations.FrameReadyEdges := by
  unfold Obligations.FrameReadyEdges
  intro s t h a
  have hflags : a.flags = s.flags := by rw [show a = _ from s.nextInput_snd]
  obtain hkept | ⟨c, d, hpump⟩ | ⟨hlow, hop⟩ := (OperationFrame.of_step h).ready
  · rw [hkept]
    exact ⟨fun hs ht => absurd (hs.symm.trans ht) Bool.false_ne_true,
      fun hs ht => absurd (ht.symm.trans hs) Bool.false_ne_true⟩
  · have hpumped : pump c d a = .next t := by
      rw [step, hpump] at h
      exact h
    rw [← hflags]
    exact ⟨fun hs ht => ⟨c, d, hpump, rise_of_pump hpumped hs ht⟩,
      fun hs ht => .inr (.inr ⟨c, d, hpump, fall_of_pump hpumped hs ht⟩)⟩
  · exact ⟨fun _ ht => absurd (hlow.symm.trans ht) Bool.false_ne_true, fun _ _ => hop.imp_right .inl⟩

end

section
/-! The lifecycle of the block (70_reset_and_hazards.md section 1): construction, start and stop, and the invariant that
every step of the block keeps. -/

open Sys2Proof Sys2Proof.Machine

namespace Sys2Proof.Machine

variable {s t u : State} {f : LifecycleFlags} {e : Input} {c d due : Bool}

theorem State.start_of_blocked (hw : Bool) (h : s.flags.romLoaded = false ∨ s.flags.running = true) :
    s.start hw = (false, s) :=
  if_pos h

theorem State.start_of_loaded (hw : Bool) (hrom : s.flags.romLoaded = true) (hrun : s.flags.running = false) :
    s.start hw = (true, { s.initRegs with
      pulseCpu := false
      pulseTimer := false
      flags := { s.flags with hwTimerMode := hw, initialized := true, running := true } }) :=
  if_neg (by simp [hrom, hrun])

theorem State.stop_of_running (h : s.flags.running = true) : s.stop = (true, s.stopCore) :=
  if_pos h

theorem State.stop_of_not_running (h : s.flags.running = false) : s.stop = (false, s) :=
  if_neg (by simp [h])

/-! ### The legal flag registers -/

/-- The flag register outside Running: ROM_LOADED alone tells Loaded from Uninitialized (R34, R267). -/
def LifecycleFlags.stopped (rom : Bool) : LifecycleFlags := { LifecycleFlags.clear with romLoaded := rom }

/-- The flag register names Running, with PAUSED 0 (R35, R267); the draw, sound and timer-mode bits are free. -/
structure LifecycleFlags.IsRunning (f : LifecycleFlags) : Prop where
  romLoaded   : f.romLoaded = true
  running     : f.running = true
  initialized : f.initialized = true
  notPaused   : f.paused = false

theorem LifecycleFlags.legal_stopped (rom : Bool) : (stopped rom).legal = true := by
  cases rom <;> rfl

theorem LifecycleFlags.IsRunning.legal (h : f.IsRunning) : f.legal = true := by
  simp [LifecycleFlags.legal, phase, h.romLoaded, h.running, h.initialized, h.notPaused]

/-- A legal flag register is one of the two outside Running, or names Running. -/
theorem LifecycleFlags.legal_cases (h : f.legal = true) : (∃ rom, f = stopped rom) ∨ f.IsRunning := by
  obtain ⟨rom, run, init, pending, ready, sound, paused, hw⟩ := f
  simp only [LifecycleFlags.legal, phase, Bool.and_eq_true, Bool.or_eq_true, Bool.not_eq_true'] at h
  obtain ⟨⟨hphase, rfl⟩, hbits⟩ := h
  split at hphase
  · obtain ⟨⟨⟨rfl, rfl⟩, rfl⟩, rfl⟩ := hbits.resolve_left Bool.false_ne_true
    exact .inl ⟨false, rfl⟩
  · obtain ⟨⟨⟨rfl, rfl⟩, rfl⟩, rfl⟩ := hbits.resolve_left Bool.false_ne_true
    exact .inl ⟨true, rfl⟩
  · exact .inr ⟨rfl, rfl, rfl, rfl⟩
  · cases hphase

theorem LifecycleFlags.isRunning_of_initialized (h : f.legal = true) (hinit : f.initialized = true) :
    f.IsRunning := by
  obtain ⟨rom, rfl⟩ | hrunning := legal_cases h
  · cases hinit
  · exact hrunning

theorem LifecycleFlags.legal_setRomLoaded (h : f.legal = true) : { f with romLoaded := true }.legal = true := by
  obtain ⟨rom, rfl⟩ | hrunning := legal_cases h
  · exact legal_stopped true
  · exact IsRunning.legal ⟨rfl, hrunning.running, hrunning.initialized, hrunning.notPaused⟩

theorem LifecycleFlags.legal_clearDrawReady (h : f.legal = true) : { f with gpuDrawReady := false }.legal = true := by
  obtain ⟨rom, rfl⟩ | hrunning := legal_cases h
  · exact legal_stopped rom
  · exact IsRunning.legal ⟨hrunning.romLoaded, hrunning.running, hrunning.initialized, hrunning.notPaused⟩

/-- The start of a legal block with a ROM leaves it Running (R265). -/
theorem LifecycleFlags.isRunning_setRunning (h : f.legal = true) (hrom : f.romLoaded = true) (hw : Bool) :
    IsRunning { f with hwTimerMode := hw, initialized := true, running := true } := by
  refine ⟨hrom, rfl, rfl, ?_⟩
  obtain ⟨rom, rfl⟩ | hrunning := legal_cases h
  · rfl
  · exact hrunning.notPaused

/-! ### Memory stays canonical -/

/-- The two instructions that write memory write bytes through `Memory.writeBytes`. -/
theorem mem_wf_of_exec {i : Instr} (h : exec i s = .next t) (hwf : s.mem.wf) : t.mem.wf := by
  by_cases hkept : t.mem = s.mem
  · rwa [hkept]
  obtain ⟨hwriters, -⟩ := otherStateWritersAreListed i s t h
  obtain ⟨x, rfl | rfl⟩ := hwriters hkept
  all_goals
    rw [eq_of_next (s.next_of_access h)]
    exact Memory.writeBytes_wf _ hwf _

theorem mem_wf_of_instrPhase (h : instrPhase due s = .next t) (hwf : s.mem.wf) : t.mem.wf := by
  unfold instrPhase at h
  split at h
  case isFalse => rwa [eq_of_next h]
  case isTrue =>
    obtain ⟨i, -, hexec⟩ | ⟨-, -, rfl⟩ := instrStep_cases h
    · exact mem_wf_of_exec hexec hwf
    · exact hwf

@[simp] theorem State.takePulses_mem (s : State) : s.takePulses.mem = s.mem := by rw [s.takePulses_eq]

@[simp] theorem State.afterCpu_mem (s : State) (due : Bool) : (s.afterCpu due).mem = s.mem := by
  obtain h | h := s.afterCpu_cases due <;> simp [h]

/-! ### The step of the block -/

/-- The instruction phase of a Running block keeps it Running, or EXIT stopped it. -/
theorem isRunning_of_instrPhase (h : instrPhase due s = .next t) (hs : s.flags.IsRunning) :
    t.flags.IsRunning ∨ t = s.advance.stopCore := by
  obtain hkeeps | ⟨-, -, hexit⟩ := instrPhase_cases h
  · rw [hkeeps.flags]
    exact .inl ⟨hs.romLoaded, hs.running, hs.initialized, hs.notPaused⟩
  · exact .inr hexit

theorem LifecycleFlags.IsRunning.afterCpu (h : s.flags.IsRunning) (due : Bool) : (s.afterCpu due).flags.IsRunning := by
  obtain hnone | htick := s.afterCpu_cases due
  · rwa [hnone]
  · rw [htick, s.timerTick_eq]
    exact ⟨h.romLoaded, h.running, h.initialized, h.notPaused⟩

/-- A pump does something only when INITIALIZED, which among legal flags means Running. -/
theorem State.Inv.of_pump (hinv : s.Inv) (h : pump c d s = .next t) : t.Inv := by
  obtain ⟨hmem, hflags⟩ := hinv
  obtain ⟨-, rfl⟩ | ⟨hinit, u, hu, rfl⟩ := pump_phases h
  · exact ⟨hmem, hflags⟩
  have hrunning : s.takePulses.flags.IsRunning := by
    rw [s.takePulses_flags]
    exact LifecycleFlags.isRunning_of_initialized hflags hinit
  refine ⟨?_, ?_⟩
  · rw [u.afterCpu_mem]
    exact mem_wf_of_instrPhase hu (s.takePulses_mem ▸ hmem)
  · obtain hkeeps | rfl := isRunning_of_instrPhase hu hrunning
    · exact (hkeeps.afterCpu _).legal
    · exact LifecycleFlags.legal_stopped false

theorem State.Inv.load (hinv : s.Inv) (bytes : List Byte) : (s.load bytes).2.Inv := by
  obtain heq | heq := s.load_cases bytes <;> rw [heq]
  · exact hinv
  · exact ⟨loadImage_wf s.cfg bytes, LifecycleFlags.legal_setRomLoaded hinv.2⟩

theorem State.Inv.start (hinv : s.Inv) (hw : Bool) : (s.start hw).2.Inv := by
  by_cases hblocked : s.flags.romLoaded = false ∨ s.flags.running = true
  · rwa [State.start_of_blocked hw hblocked]
  · obtain ⟨hrom, hrun⟩ : s.flags.romLoaded = true ∧ s.flags.running = false := by simpa using hblocked
    rw [State.start_of_loaded hw hrom hrun]
    exact ⟨hinv.1, (LifecycleFlags.isRunning_setRunning hinv.2 hrom hw).legal⟩

theorem State.Inv.stop (hinv : s.Inv) : s.stop.2.Inv := by
  obtain heq | heq := s.stop_cases <;> rw [heq]
  · exact hinv
  · exact ⟨hinv.1, LifecycleFlags.legal_stopped false⟩

theorem State.Inv.of_applyInput (hinv : s.Inv) (h : applyInput e s = .next t) : t.Inv := by
  cases e with
  | pump c d => exact hinv.of_pump h
  | load bytes => exact eq_of_next h ▸ hinv.load bytes
  | start hw => exact eq_of_next h ▸ hinv.start hw
  | stop => exact eq_of_next h ▸ hinv.stop
  | resetDraw => exact eq_of_next h ▸ ⟨hinv.1, LifecycleFlags.legal_clearDrawReady hinv.2⟩
  | setKey | clearDirty | cpuPulse | timerPulse => exact eq_of_next h ▸ hinv

end Sys2Proof.Machine

/-- Settles O54: taking the next operation from the queue touches neither memory nor flags, and every operation keeps
the invariant. -/
theorem stepKeepsInvariant : Obligations.StepKeepsInvariant := by
  unfold Obligations.StepKeepsInvariant
  intro s t hinv h
  have hqueue : s.nextInput.2.Inv := by rwa [s.nextInput_snd]
  exact hqueue.of_applyInput h

/-- Settles O48: the arrays of the construction state are constant, its screen is the dark one with every cell dirty,
and its flag register is that of a stop. -/
theorem resetIsConstruction : Obligations.ResetIsConstruction := by
  unfold Obligations.ResetIsConstruction
  exact ⟨fun _ => rfl, fun k => Vector.getElem_replicate k.isLt, rfl, rfl, fun k => Vector.getElem_replicate k.isLt,
    rfl, rfl, rfl, pixel_darkFb, dirtyCell_allDirty, rfl, fun k => Vector.getElem_replicate k.isLt, rfl, rfl⟩

/-- Settles O51, by the two outcomes of start and of stop; the screen that start leaves is dark and all dirty. -/
theorem startAndStop : Obligations.StartAndStop := by
  unfold Obligations.StartAndStop
  intro s hw
  exact ⟨State.start_of_blocked hw,
    fun hrom hrun => ⟨darkFb, allDirty, State.start_of_loaded hw hrom hrun, pixel_darkFb, dirtyCell_allDirty⟩,
    State.stop_of_not_running, State.stop_of_running⟩

end

section
/-! The unknown words (30_encoding.md section 4): which words the decoder refuses, by the fields that select its arms,
and those fields as shifted and masked words. -/

open Sys2Proof Sys2Proof.Machine

namespace Sys2Proof

variable {op : Word}

/-! ### The fields of a word as numbers -/

theorem toNat_ushiftRight_twelve (op : Word) : (op >>> 12).toNat = major op := by
  have := op.isLt
  rw [major, BitVec.extractLsb'_toNat, BitVec.toNat_ushiftRight, Nat.shiftRight_eq_div_pow]
  omega

theorem toNat_and_low_nibble (op : Word) : (op &&& 0xF).toNat = (fieldN op).toNat := by
  rw [fieldN, BitVec.extractLsb'_toNat, BitVec.toNat_and]
  exact Nat.and_two_pow_sub_one_eq_mod _ 4

theorem toNat_and_low_byte (op : Word) : (op &&& 0xFF).toNat = (fieldNN op).toNat := by
  rw [fieldNN, BitVec.extractLsb'_toNat, BitVec.toNat_and]
  exact Nat.and_two_pow_sub_one_eq_mod _ 8

/-! ### The refusals of the decoder -/

theorem decodeMajor8_error_iff :
    (∃ e, decodeMajor8 op = .error e) ↔ (fieldN op).toNat ∈ [0x8, 0x9, 0xA, 0xB, 0xC, 0xD, 0xF] := by
  have hlt : (fieldN op).toNat < 16 := (fieldN op).isLt
  unfold decodeMajor8
  split
  case h_10 => grind
  all_goals
    rename_i hn
    simp [hn]

theorem decodeMajorE_error_iff : (∃ e, decodeMajorE op = .error e) ↔ (fieldNN op).toNat ∉ [0x9E, 0xA1] := by
  unfold decodeMajorE
  split
  case h_3 => simp_all
  all_goals
    rename_i hnn
    simp [hnn]

theorem decodeMajorF_error_iff :
    (∃ e, decodeMajorF op = .error e) ↔
      (fieldNN op).toNat ∉ [0x07, 0x0A, 0x15, 0x18, 0x1E, 0x29, 0x30, 0x33, 0x55, 0x65] := by
  unfold decodeMajorF
  split
  case h_11 => simp_all
  all_goals
    rename_i hnn
    simp [hnn]

/-- The arms that can refuse a word: the two with a checked nibble, and the three with a function field. -/
theorem decode_error_iff :
    (∃ e, decode op = .error e) ↔
      ((major op = 0x5 ∨ major op = 0x9) ∧ fieldN op ≠ 0) ∨
        (major op = 0x8 ∧ ∃ e, decodeMajor8 op = .error e) ∨ (major op = 0xE ∧ ∃ e, decodeMajorE op = .error e) ∨
          (major op = 0xF ∧ ∃ e, decodeMajorF op = .error e) := by
  unfold decode
  split
  case h_16 =>
    have hlt : major op < 16 := BitVec.isLt _
    have hm : major op = 0xF := by grind
    simp [hm]
  case h_6 hm | h_10 hm =>
    by_cases hn : fieldN op = 0#4 <;> simp [hm, hn]
  all_goals
    rename_i hm
    simp [hm]

end Sys2Proof

/-- Settles O4: the arms of the decoder that refuse a word, read as shifts and masks; the step then runs such a word as
a no-op. -/
theorem unknownWordsAreNoOps : Obligations.UnknownWordsAreNoOps := by
  unfold Obligations.UnknownWordsAreNoOps
  refine ⟨fun op => ?_, fun s hfetch ⟨e, he⟩ => ?_⟩
  · rw [decode_error_iff, decodeMajor8_error_iff, decodeMajorE_error_iff, decodeMajorF_error_iff]
    simp [← BitVec.toNat_inj, ← toNat_ushiftRight_twelve, ← toNat_and_low_nibble, ← toNat_and_low_byte]
  · rw [instrStep_of_no_fault hfetch]
    exact State.runWord_unknown he

end

section
/-! A call and its return (41_control_flow.md section 3). -/

open Sys2Proof Sys2Proof.Machine

/-- Settles O16: the return pops the slot that the call pushed. -/
theorem callThenReturn : Obligations.CallThenReturn := by
  unfold Obligations.CallThenReturn
  intro s t u nnn k hsp hcall husp hslot
  rw [exec_call_of_sp_eq_castSucc nnn hsp] at hcall
  obtain rfl := eq_of_next hcall
  refine ⟨_, exec_ret_of_sp_eq_succ husp, ?_, hsp.symm⟩
  exact hslot.trans (Vector.getElem_set_self _)

end

section
/-! A clear of a dirty cell (40_display.md section 1). -/

open Sys2Proof Sys2Proof.Machine

/-- Settles O40: after a step that performs any other operation, a clean cell was clean before. -/
theorem onlyRendererClearsDirty : Obligations.OnlyRendererClearsDirty := by
  unfold Obligations.OnlyRendererClearsDirty
  intro s t r c hstep hdirty hclean
  by_contra hhead
  have htracks : Tracks r c { s with inputs := s.inputs.tail } t :=
    .of_step (fun e he hclear => hhead (hclear ▸ he)) hstep
  obtain ⟨hwas, -⟩ := htracks.clean hclean
  cases hdirty.symm.trans hwas

end

section
/-! A pump as its two phases (60_exceptions.md section 3), and the first one after load and start
(70_reset_and_hazards.md section 2). -/

open Sys2Proof Sys2Proof.Machine

namespace Sys2Proof.Machine

variable {s : State} {i : Instr} {c d : Bool}

/-! ### The phases -/

/-- The timer phase of a pump: it follows an instruction phase that answered a next state. -/
def timerPhase (due : Bool) (o : Result) : Result :=
  match o with
  | .next t => .next (t.afterCpu due)
  | .fault f => .fault f
  | .refused r => .refused r

@[simp] theorem timerPhase_false (o : Result) : timerPhase false o = o := by
  cases o <;> simp [timerPhase, State.afterCpu]

theorem pump_of_not_initialized (h : s.flags.initialized = false) : pump c d s = .next s :=
  if_neg (by simp [h])

theorem pump_of_initialized (h : s.flags.initialized = true) :
    pump c d s = timerPhase (s.due c d).2 (instrPhase (s.due c d).1 s.takePulses) :=
  if_pos h

theorem pump_of_polled (h : s.flags.initialized = true) (hmode : s.flags.hwTimerMode = false) :
    pump c d s = timerPhase d (instrPhase c s) := by
  simp [pump_of_initialized h, State.due, State.takePulses, hmode]

/-- In polled mode a pump whose instruction interval has elapsed executes the instruction at PC. -/
theorem pump_of_decode (h : s.flags.initialized = true) (hmode : s.flags.hwTimerMode = false)
    (hfetch : s.memFaultAt s.pc.toNat 2 = none) (hi : decode (s.fetch16 s.pc.toNat) = .ok i) :
    pump true d s = timerPhase d (exec i s) := by
  rw [pump_of_polled h hmode, ← State.runWord_of_decode hi, ← instrStep_of_no_fault hfetch]
  rfl

/-! ### The first two bytes of a ROM -/

/-- Load puts the ROM's bytes at 0x200, over whatever the fonts left there (R261). -/
theorem read_loadImage_rom (cfg : Config) {rom : List Byte} {j : Nat} (hj : j < rom.length)
    (hfits : rom.length ≤ romMax) : (loadImage cfg rom).read (ix (romBase + j)) = rom[j] :=
  Memory.read_writeBytes_same rom _ romBase j hj (hfits.trans (by decide))

/-! ### Load, then start -/

variable {rom : List Byte} {more : List Input}

theorem run_succ_of_step {M : Host.Core} {s u : M.State} (h : M.step s = .next u) (k : Nat) :
    M.run (k + 1) s = M.run k u := by
  rw [Host.Core.run, h]

/-- The state that load leaves from a fitting ROM (R261). -/
def State.withRom (s : State) (rom : List Byte) : State :=
  { s with mem := loadImage s.cfg rom, flags := { s.flags with romLoaded := true } }

/-- The state that start leaves from an idle block with a ROM (R264, R265). -/
def State.started (s : State) (hw : Bool) : State :=
  { s.initRegs with
    pulseCpu := false
    pulseTimer := false
    flags := { s.flags with hwTimerMode := hw, initialized := true, running := true } }

/-- The block after load and start(false), in polled mode, with `more` queued. -/
def State.booted (s : State) (rom : List Byte) (more : List Input) : State :=
  { (s.withRom rom).started false with inputs := more }

theorem step_of_load (hin : s.inputs = .load rom :: more) (hrom : rom.length ≤ romMax) :
    step s = .next { s.withRom rom with inputs := more } := by
  rw [step_of_input hin, applyInput, State.load_of_fits _ hrom]
  rfl

theorem step_of_start {hw : Bool} (hin : s.inputs = .start hw :: more) (hloaded : s.flags.romLoaded = true)
    (hrun : s.flags.running = false) : step s = .next { s.started hw with inputs := more } := by
  rw [step_of_input hin, applyInput, State.start_of_loaded (s := { s with inputs := more }) hw hloaded hrun]
  rfl

theorem run_two_of_boot (hin : s.inputs = .load rom :: .start false :: more) (hrom : rom.length ≤ romMax)
    (hrun : s.flags.running = false) : Sys2Proof.core.run 2 s = .next (s.booted rom more) := by
  have hstart : step { s.withRom rom with inputs := .start false :: more } = .next (s.booted rom more) :=
    step_of_start rfl rfl hrun
  exact (run_succ_of_step (step_of_load hin hrom) 1).trans (run_succ_of_step hstart 0)

/-- The word that the booted block fetches first is the ROM's (R54, R72). -/
theorem fetch16_booted (s : State) {b0 b1 : Byte} {rest : List Byte} (more : List Input)
    (hfits : (b0 :: b1 :: rest).length ≤ romMax) :
    (s.booted (b0 :: b1 :: rest) more).fetch16 romBase = wordOfBytes b0 b1 :=
  congrArg₂ wordOfBytes (read_loadImage_rom s.cfg (rom := b0 :: b1 :: rest) (j := 0) (by simp) hfits)
    (read_loadImage_rom s.cfg (rom := b0 :: b1 :: rest) (j := 1) (by simp) hfits)

end Sys2Proof.Machine

/-- Settles O9: the pump's timer phase is the tail of the statement, and the mode decides what is due. -/
theorem pumpFollowsScheduler : Obligations.PumpFollowsScheduler := by
  unfold Obligations.PumpFollowsScheduler
  intro s c d tail cleared
  have htail (o : Result) (due : Bool) : timerPhase due o = tail o due := by
    cases o <;> simp [timerPhase, tail, State.afterCpu]
  refine ⟨pump_of_not_initialized, fun h hmode => ?_, fun h hmode => ?_⟩
  · rw [pump_of_polled h hmode, htail]
    rfl
  · simp only [pump_of_initialized h, State.due, State.takePulses, hmode, if_true, htail]
    rfl

/-- Settles O8: each clause is a pump, and its instruction phase executes the instruction at PC. -/
theorem blockStepRunsDecoded : Obligations.BlockStepRunsDecoded := by
  unfold Obligations.BlockStepRunsDecoded
  intro s i h hmode hfetch hi
  have hpump (rest : List Input) (d : Bool) :
      pump true d { s with inputs := rest } = timerPhase d (exec i { s with inputs := rest }) :=
    pump_of_decode h hmode hfetch hi
  refine ⟨fun hin => ?_, fun rest hin => ?_, fun rest t hin hexec => ?_⟩
  · rw [step_of_no_input hin, pump_of_decode h hmode hfetch hi, timerPhase_false]
  · rw [step_of_input hin, applyInput, hpump, timerPhase_false]
  · rw [step_of_input hin, applyInput, hpump, hexec]
    simp [timerPhase, State.afterCpu]

/-- Settles O56: the step of load and the step of start leave a running block in polled mode with PC at the ROM. -/
theorem bootRunsRomFirstWord : Obligations.BootRunsRomFirstWord := by
  unfold Obligations.BootRunsRomFirstWord
  rintro s _ b0 b1 rest i more hrun - rfl hlen hi hin
  refine ⟨_, run_two_of_boot hin hlen hrun, rfl, rfl, rfl, fun k => Vector.getElem_replicate k.isLt, ?_⟩
  have hfetch : (s.booted (b0 :: b1 :: rest) more).memFaultAt romBase 2 = none := by
    rw [State.memFaultAt_eq, if_neg]
    simp [romBase, memSize]
  rw [step_of_input rfl, applyInput]
  calc pump true false (s.booted (b0 :: b1 :: rest) more)
      = timerPhase false (exec i (s.booted (b0 :: b1 :: rest) more)) :=
        pump_of_decode rfl rfl hfetch ((congrArg decode (fetch16_booted s more hlen)).trans hi)
    _ = exec i (s.booted (b0 :: b1 :: rest) more) := timerPhase_false _

end

section
/-! Arithmetic with a flag and the shifts (42_alu.md sections 5 and 6): bytes as numbers, and the flag as a test of
them. -/

open Sys2Proof Sys2Proof.Machine

namespace Sys2Proof.Machine

/-- The five instructions that write a result and then VF are this, with their own result and flag (R153). -/
theorem State.withResult_eq_of_iff (s : State) (x : Reg) (r : Byte) {f : Bool} {p : Prop} [Decidable p]
    (h : f = true ↔ p) :
    s.withResult x r f =
      { s with v := (s.v.set x r).set 15 (if p then 1 else 0), pc := s.pc + 2 } := by
  rw [s.withResult_eq, if_congr h rfl rfl]

theorem byte_sub_eq_ofNat (a b : Byte) : a - b = BitVec.ofNat 8 ((a.toNat + 256 - b.toNat) % 256) := by
  apply BitVec.eq_of_toNat_eq
  have := b.isLt
  rw [BitVec.toNat_sub, BitVec.toNat_ofNat]
  omega

theorem byte_ushiftRight_one_eq_ofNat (a : Byte) : a >>> 1 = BitVec.ofNat 8 (a.toNat / 2) := by
  apply BitVec.eq_of_toNat_eq
  have := a.isLt
  rw [BitVec.toNat_ushiftRight, BitVec.toNat_ofNat, Nat.shiftRight_eq_div_pow]
  omega

theorem byte_shiftLeft_one_eq_ofNat (a : Byte) : a <<< 1 = BitVec.ofNat 8 (2 * a.toNat % 256) := by
  apply BitVec.eq_of_toNat_eq
  rw [BitVec.toNat_shiftLeft, BitVec.toNat_ofNat, Nat.shiftLeft_eq]
  omega

theorem carry_iff {a b : Byte} : carry a b = true ↔ 255 < a.toNat + b.toNat := decide_eq_true_iff

theorem notBorrow_iff {a b : Byte} : notBorrow a b = true ↔ b.toNat ≤ a.toNat := decide_eq_true_iff

theorem lowBit_iff {a : Byte} : lowBit a = true ↔ a.toNat % 2 = 1 := by
  simp [lowBit, BitVec.getLsbD, Nat.testBit_zero]

theorem highBit_iff {a : Byte} : highBit a = true ↔ 128 ≤ a.toNat := by
  have := a.isLt
  simp only [highBit, BitVec.getLsbD, Nat.testBit_eq_decide_div_mod_eq, decide_eq_true_eq]
  omega

theorem State.toNat_shiftSource (s : State) (x y : Reg) :
    (s.shiftSource x y).toNat = if s.cfg.shiftUsesVy then s.v[y].toNat else s.v[x].toNat :=
  apply_ite BitVec.toNat ..

end Sys2Proof.Machine

/-- Settles O23: the byte sum, and the carry as a test of the exact sum. -/
theorem addSetsCarry : Obligations.AddSetsCarry := by
  unfold Obligations.AddSetsCarry
  intro s x y
  rw [← byte_add_eq_ofNat]
  exact congrArg _ (s.withResult_eq_of_iff x _ carry_iff)

/-- Settles O24: the byte difference, and NOT borrow as the order of the operands. -/
theorem subSetsNotBorrow : Obligations.SubSetsNotBorrow := by
  unfold Obligations.SubSetsNotBorrow
  intro s x y
  rw [← byte_sub_eq_ofNat]
  exact congrArg _ (s.withResult_eq_of_iff x _ notBorrow_iff)

/-- Settles O25: as for SUB, with the operands exchanged. -/
theorem subnSetsNotBorrow : Obligations.SubnSetsNotBorrow := by
  unfold Obligations.SubnSetsNotBorrow
  intro s x y
  rw [← byte_sub_eq_ofNat]
  exact congrArg _ (s.withResult_eq_of_iff x _ notBorrow_iff)

/-- Settles O26: half and double of the shifted byte, and the bit shifted out as a test of its number. -/
theorem shiftsSetBitOut : Obligations.ShiftsSetBitOut := by
  unfold Obligations.ShiftsSetBitOut
  intro s x y a
  rw [show a = _ from (s.toNat_shiftSource x y).symm, ← byte_ushiftRight_one_eq_ofNat, ← byte_shiftLeft_one_eq_ofNat]
  exact ⟨congrArg _ (s.withResult_eq_of_iff x _ lowBit_iff), congrArg _ (s.withResult_eq_of_iff x _ highBit_iff)⟩

end

section
/-! SYS and EXIT (45_system.md), and the state at reset (70_reset_and_hazards.md section 1). -/

open Sys2Proof Sys2Proof.Machine

/-- Settles O13: neither instruction tests anything. -/
theorem systemInstructions : Obligations.SystemInstructions := by
  unfold Obligations.SystemInstructions
  intro s nnn
  exact ⟨rfl, rfl⟩

/-- Settles O55: memory at reset lists no address, and the flag register is that of a stop. -/
theorem resetMeetsInvariant : Obligations.ResetMeetsInvariant := by
  unfold Obligations.ResetMeetsInvariant
  exact ⟨Memory.nil_wf, LifecycleFlags.legal_stopped false⟩

end
